-- ==== Sys2Proof/Word.lean ====
section
/-! DEFINITION. The words of ESYNC: the widths the spec fixes for its ports and datapath
(00_scope R9, 30_encoding R70, R75, R77). -/

namespace Sys2Proof

/-- One byte of the stream (R7 BYTE_W, R9). -/
abbrev Byte := BitVec 8

/-- The 11-bit cycle input vector `civ` of format CIV11 (R75). -/
abbrev Civ := BitVec 11

/-- The 6-bit selection vector `sv` of format SEL6 (R77). -/
abbrev Sel := BitVec 6

/-- A frame as one 64-bit number, as `out_frame` presents it: format FRAME64 (R70, R53). -/
abbrev FrameWord := BitVec 64

/-- Eight bytes in stream order: a frame, or a candidate window that may or may not be one
(R52, R104). Element 0 is the oldest byte. -/
abbrev Frame := Vector Byte 8

/-- The window storage `win[0..6]` (R31). -/
abbrev Window := Vector Byte 7

end Sys2Proof
end

