-- ==== Sys2Proof/Config.lean ====
section
/-! DEFINITION. What is fixed for the machine: the constants of 00_scope R7, the one build-time
parameter of R8, and the values the spec leaves to the environment or to power-up, which are
opaque: nothing in Lean can prove what they are, so a claim holds whatever they are. -/

namespace Sys2Proof.Config

/-- FRAME_LEN (R7). -/
def frameLen : Nat := 8

/-- HDR0, the first header byte (R7). -/
def hdr0 : Byte := 0x09#8

/-- HDR1, the second header byte (R7). -/
def hdr1 : Byte := 0x94#8

/-- CK_MOD, the checksum's modulus (R7). -/
def ckMod : Nat := 256

/-- MANT_SCALE, `2^15` (R7). -/
def mantScale : Nat := 32768

/-- VOLTAGE (R7). -/
def voltage : Nat := 240

/-- The default of the build-time parameter DIAG, 0 (R8). -/
def diagDefault : Bool := false

/-- The value of DIAG in a block built with an explicit value, or with none: the value given, else the
default (R8). -/
def diagOf (given : Option Bool) : Bool := given.getD diagDefault

/-- The explicit value of DIAG with which this block was built, if any; R8 and R236 let the builder give
either value or none, so the model leaves it free (log entry 4). -/
opaque diagGiven : Option Bool

/-- The build-time parameter DIAG of this block (R8, R180): `true` is 1, `false` is 0. -/
def diag : Bool := diagOf diagGiven

/-- The vector the environment drives in a cycle for which no stimulus is queued: the environment
may make any move in any cycle (R27), so each draw is a free value (log entry 2). -/
opaque envInput : Nat → Civ

/-- `cnt` between power-up and the first reset edge: some value in 0 to 7 (R235, log entry 5). -/
opaque powerUpCnt : BitVec 3

/-- `win` between power-up and the first reset edge: arbitrary bytes (R235, log entry 5). -/
opaque powerUpWin : Window

/-- `ov` between power-up and the first reset edge: unspecified (R235, log entry 5). -/
opaque powerUpOv : Bool

/-- `fr` between power-up and the first reset edge: arbitrary bytes (R235, log entry 5). -/
opaque powerUpFr : Frame

/-- `F64(M, E)` outside the requirement of R158, where the rule states no pattern (log entry 12). -/
opaque f64Unstated : Nat → Int → BitVec 64

end Sys2Proof.Config
end

