-- ==== Sys2Proof/Machine/Frame.lean ====
section
/-! DEFINITION. The frame format FRAME64 and its validation: byte lanes (R53), header match (R100),
checksum (R101) and `FrameValid` (R102). Pure functions of eight bytes. -/

namespace Sys2Proof.Machine

/-- `out_frame` for eight bytes: byte `k` in `[63-8k : 56-8k]`, byte 0 most significant (R53). -/
def packFrame (w : Frame) : FrameWord :=
  w[0] ++ w[1] ++ w[2] ++ w[3] ++ w[4] ++ w[5] ++ w[6] ++ w[7]

/-- Frame byte `k` of a 64-bit frame value (R53, R70). -/
def frameByte (F : FrameWord) (k : Nat) : Byte := F.extractLsb' (56 - 8 * k) 8

/-- The eight bytes of a 64-bit frame value in stream order (R52, R53). -/
def unpackFrame (F : FrameWord) : Frame :=
  #v[frameByte F 0, frameByte F 1, frameByte F 2, frameByte F 3,
     frameByte F 4, frameByte F 5, frameByte F 6, frameByte F 7]

/-- `HeaderMatch(w)` (R100). -/
def headerMatch (w : Frame) : Bool := w[0] == Config.hdr0 && w[1] == Config.hdr1

/-- The integer sum of bytes 0 to 6, before it is reduced (R101). -/
def byteSum (w : Frame) : Nat :=
  w[0].toNat + w[1].toNat + w[2].toNat + w[3].toNat + w[4].toNat + w[5].toNat + w[6].toNat

/-- `Checksum(w)` (R101). -/
def checksum (w : Frame) : Byte := BitVec.ofNat 8 (byteSum w % Config.ckMod)

/-- `FrameValid(w)` (R102). -/
def frameValid (w : Frame) : Bool := headerMatch w && checksum w == w[7]

end Sys2Proof.Machine
end

