-- ==== Sys2Proof/Machine/Operands.lean ====
section
/-! DEFINITION. Operand assembly: the fields of a cycle input vector (R75), of a selection vector
(R77) and of a frame (R70, R72), and the vectors and frames built from them. -/

namespace Sys2Proof.Machine

/-- `rst`, bit 10 of `civ` (R75). -/
def civRst (v : Civ) : Bool := v.getLsbD 10

/-- `in_valid`, bit 9 of `civ` (R75). -/
def civInValid (v : Civ) : Bool := v.getLsbD 9

/-- `out_ready`, bit 8 of `civ` (R75). -/
def civOutReady (v : Civ) : Bool := v.getLsbD 8

/-- `in_data`, bits 7:0 of `civ` (R75). -/
def civInData (v : Civ) : Byte := v.extractLsb' 0 8

/-- `civ = {rst, in_valid, out_ready, in_data}` (R75). -/
def mkCiv (rst inValid outReady : Bool) (inData : Byte) : Civ :=
  BitVec.ofBool rst ++ BitVec.ofBool inValid ++ BitVec.ofBool outReady ++ inData

/-- `rst`, bit 5 of `sv` (R77). -/
def selRst (sv : Sel) : Bool := sv.getLsbD 5

/-- `in_valid`, bit 4 of `sv` (R77). -/
def selInValid (sv : Sel) : Bool := sv.getLsbD 4

/-- `out_ready`, bit 3 of `sv` (R77). -/
def selOutReady (sv : Sel) : Bool := sv.getLsbD 3

/-- `ov`, bit 2 of `sv` (R77). -/
def selOv (sv : Sel) : Bool := sv.getLsbD 2

/-- `full`, bit 1 of `sv` (R77). -/
def selFull (sv : Sel) : Bool := sv.getLsbD 1

/-- `fv`, bit 0 of `sv` (R77). -/
def selFv (sv : Sel) : Bool := sv.getLsbD 0

/-- `sv = {rst, in_valid, out_ready, ov, full, fv}` (R77). -/
def mkSel (rst inValid outReady ov full fv : Bool) : Sel :=
  BitVec.ofBool rst ++ BitVec.ofBool inValid ++ BitVec.ofBool outReady ++
    BitVec.ofBool ov ++ BitVec.ofBool full ++ BitVec.ofBool fv

/-- `dev = {b2, b3}`, opaque (R72). -/
def frameDev (w : Frame) : BitVec 16 := w[2] ++ w[3]

/-- `mant = {b4, b5}`, byte 4 the more significant (R72, R54). -/
def frameMant (w : Frame) : BitVec 16 := w[4] ++ w[5]

/-- `exp = b6`, unsigned, no bias and no clamp (R72). -/
def frameExp (w : Frame) : Byte := w[6]

/-- `ck = b7` (R72). -/
def frameCk (w : Frame) : Byte := w[7]

/-- The eight bytes with the header of R7 and the fields given (R70). -/
def frameOfFields (dev mant : BitVec 16) (exp ck : Byte) : Frame :=
  #v[Config.hdr0, Config.hdr1, dev.extractLsb' 8 8, dev.extractLsb' 0 8,
     mant.extractLsb' 8 8, mant.extractLsb' 0 8, exp, ck]

end Sys2Proof.Machine
end

