-- ==== Sys2Proof/Syntax.lean ====
section
/-! DEFINITION. The instructions of ESYNC: one constructor per row of spec/opcode_table.json, in the
table's order. ESYNC is not a processor (R2): its instructions are the five cycle commands of the
input vector (R76), the frame format (R70, R102) and the micro-operations a cycle performs (R77).
Ignored bits of an encoding are no operands. -/

namespace Sys2Proof

/-- The rows of spec/opcode_table.json. ACCUM, HIT and MISS have two rows each: one for the cycles
with `out_ready = 1` (`…Ready`), one for the cycles with `out_ready = 0` and `ov = 0` (`…Empty`). -/
inductive Instr where
  /-- RST, synchronous reset (R110). -/
  | rst
  /-- NOP, idle cycle (R111). -/
  | nop
  /-- POP, consumer ready and nothing offered (R112). -/
  | pop
  /-- PUSH b, byte offered and consumer not ready (R117). -/
  | push (b : Byte)
  /-- PUSHPOP b, byte offered and consumer ready (R118). -/
  | pushpop (b : Byte)
  /-- FRAME, the 64-bit frame format with its fields DEV, MANT, EXP and CK (R70, R102). -/
  | frame (dev mant : BitVec 16) (exp ck : Byte)
  /-- STALL, byte offered and not accepted, `0101xx` (R119). -/
  | stall
  /-- ACCUM, `011x0x` (R113). -/
  | accumReady
  /-- ACCUM, `01000x` (R113). -/
  | accumEmpty
  /-- HIT, `011x11` (R115). -/
  | hitReady
  /-- HIT, `010011` (R115). -/
  | hitEmpty
  /-- MISS, `011x10` (R116). -/
  | missReady
  /-- MISS, `010010` (R116). -/
  | missEmpty
  /-- DELIVER, `0x11xx` (R114). -/
  | deliver
  deriving DecidableEq, Repr

end Sys2Proof
end

