-- ==== Sys2Proof/WellFormed.lean ====
section
/-! DEFINITION. Which instructions the spec's encodings admit. Every operand of a cycle command is
legal (R76: no `civ` value is reserved); a FRAME's checksum byte must be the one R101 computes
(R70, R102). -/

namespace Sys2Proof

/-- The check on one instruction. Only FRAME has one: `FrameValid` of its bytes (R102). -/
def Instr.wellFormed (i : Instr) : Bool :=
  match i with
  | .rst => true
  | .nop => true
  | .pop => true
  | .push _ => true
  | .pushpop _ => true
  | .frame dev mant exp ck => Machine.frameValid (Machine.frameOfFields dev mant exp ck)
  | .stall => true
  | .accumReady => true
  | .accumEmpty => true
  | .hitReady => true
  | .hitEmpty => true
  | .missReady => true
  | .missEmpty => true
  | .deliver => true

end Sys2Proof
end

