-- ==== Sys2Proof/Decode.lean ====
section
/-! DEFINITION. Decoding and encoding of the three formats of the opcode table: CIV11 (R75, R76),
SEL6 (R77) and FRAME64 (R70, R71, R102). Decoding is total; what it rejects, it rejects by name. -/

namespace Sys2Proof

/-- A word of one of the three formats of spec/opcode_table.json. -/
inductive Code where
  /-- CIV11, the cycle input vector (R75). -/
  | civ11 (v : Civ)
  /-- SEL6, the micro-operation selector (R77). -/
  | sel6 (v : Sel)
  /-- FRAME64, the frame as one number (R70). -/
  | frame64 (F : FrameWord)
  deriving DecidableEq, Repr

/-- Why a word names no instruction. -/
inductive DecodeError where
  /-- A selection vector that R77 gives to neither side's micro-operations: a reset cycle, or no
  byte offered and no frame delivered. -/
  | noMicroOp
  /-- Eight bytes whose header or checksum does not match; R203 makes the two one outcome, and R73
  says it raises nothing in the machine. -/
  | notAFrame
  /-- Bits above the format's width are set, or no format has that width. -/
  | wrongWidth
  deriving DecidableEq, Repr

/-- The cycle command a vector selects (R76). Total: every one of the `2^11` vectors selects one. -/
def decodeCiv (v : Civ) : Instr :=
  match Machine.civRst v, Machine.civInValid v, Machine.civOutReady v with
  | true, _, _ => .rst
  | false, false, false => .nop
  | false, false, true => .pop
  | false, true, false => .push (Machine.civInData v)
  | false, true, true => .pushpop (Machine.civInData v)

/-- The input-side micro-operation of a selection vector, where a byte is offered (R77). -/
def selInput (sv : Sel) : Option Instr :=
  match Machine.selRst sv, Machine.selInValid sv, Machine.selOutReady sv, Machine.selOv sv,
    Machine.selFull sv, Machine.selFv sv with
  | true, _, _, _, _, _ => none
  | false, false, _, _, _, _ => none
  | false, true, false, true, _, _ => some .stall
  | false, true, true, _, false, _ => some .accumReady
  | false, true, false, false, false, _ => some .accumEmpty
  | false, true, true, _, true, true => some .hitReady
  | false, true, false, false, true, true => some .hitEmpty
  | false, true, true, _, true, false => some .missReady
  | false, true, false, false, true, false => some .missEmpty

/-- The output-side micro-operation of a selection vector, where a frame is delivered (R77). -/
def selOutput (sv : Sel) : Option Instr :=
  match Machine.selRst sv, Machine.selOutReady sv, Machine.selOv sv with
  | false, true, true => some .deliver
  | true, _, _ => none
  | false, false, _ => none
  | false, true, false => none

/-- The micro-operation a selection vector is read as when ONE is asked for: the input side's where
there is one, else the output side's. A vector may name one of each (R77, log entry 7). -/
def decodeSel (sv : Sel) : Except DecodeError Instr :=
  match selInput sv, selOutput sv with
  | some i, _ => .ok i
  | none, some i => .ok i
  | none, none => .error .noMicroOp

/-- The frame a 64-bit value is, if it is one: the full test of R102, not the header alone (R71). -/
def decodeFrame (F : FrameWord) : Except DecodeError Instr :=
  let w := Machine.unpackFrame F
  if Machine.frameValid w then
    .ok (.frame (Machine.frameDev w) (Machine.frameMant w) (Machine.frameExp w) (Machine.frameCk w))
  else
    .error .notAFrame

/-- The instruction of a word, or the reason there is none. -/
def decode (c : Code) : Except DecodeError Instr :=
  match c with
  | .civ11 v => .ok (decodeCiv v)
  | .sel6 sv => decodeSel sv
  | .frame64 F => decodeFrame F

/-- The canonical word of an instruction, ignored bits zero (R76, R77, R78, R70). -/
def encode (i : Instr) : Code :=
  match i with
  | .rst => .civ11 0x400#11
  | .nop => .civ11 0x000#11
  | .pop => .civ11 0x100#11
  | .push b => .civ11 (0x200#11 ||| b.zeroExtend 11)
  | .pushpop b => .civ11 (0x300#11 ||| b.zeroExtend 11)
  | .frame dev mant exp ck => .frame64 (Machine.packFrame (Machine.frameOfFields dev mant exp ck))
  | .stall => .sel6 0b010100#6
  | .accumReady => .sel6 0b011000#6
  | .accumEmpty => .sel6 0b010000#6
  | .hitReady => .sel6 0b011011#6
  | .hitEmpty => .sel6 0b010011#6
  | .missReady => .sel6 0b011010#6
  | .missEmpty => .sel6 0b010010#6
  | .deliver => .sel6 0b001100#6

/-- One row of spec/opcode_table.json: the row applies to a word `w` of its width exactly when
`w AND mask = pattern` (for FRAME, the header's part of the test: R71). -/
structure Row where
  nbits : Nat
  pattern : Nat
  mask : Nat
  deriving DecidableEq, Repr

/-- The columns "match" and "mask" of the row an instruction stands for, copied from
spec/opcode_table.json, with the width of the row's format. -/
def rowOf (i : Instr) : Row :=
  match i with
  | .rst => ⟨11, 0x400, 0x400⟩
  | .nop => ⟨11, 0x000, 0x700⟩
  | .pop => ⟨11, 0x100, 0x700⟩
  | .push _ => ⟨11, 0x200, 0x700⟩
  | .pushpop _ => ⟨11, 0x300, 0x700⟩
  | .frame _ _ _ _ => ⟨64, 0x0994000000000000, 0xFFFF000000000000⟩
  | .stall => ⟨6, 0x14, 0x3c⟩
  | .accumReady => ⟨6, 0x18, 0x3a⟩
  | .accumEmpty => ⟨6, 0x10, 0x3e⟩
  | .hitReady => ⟨6, 0x1b, 0x3b⟩
  | .hitEmpty => ⟨6, 0x13, 0x3f⟩
  | .missReady => ⟨6, 0x1a, 0x3b⟩
  | .missEmpty => ⟨6, 0x12, 0x3f⟩
  | .deliver => ⟨6, 0xc, 0x2c⟩

/-- Whether a row applies to a word. -/
def Row.applies (r : Row) (w : Nat) : Bool := w &&& r.mask == r.pattern

/-- A word as a number, numbered as the table numbers its bits. -/
def Code.value (c : Code) : Nat :=
  match c with
  | .civ11 v => v.toNat
  | .sel6 sv => sv.toNat
  | .frame64 F => F.toNat

/-- The width of a word's format. -/
def Code.width (c : Code) : Nat :=
  match c with
  | .civ11 _ => 11
  | .sel6 _ => 6
  | .frame64 _ => 64

/-- The word of the format that has `nbits` bits in whole bytes: SEL6 in 8, CIV11 in 16, FRAME64 in
64. ESYNC has no memory to lay words out in (R50); the width alone tells the formats apart. -/
def codeOfBits (nbits w : Nat) : Except DecodeError Code :=
  if nbits ≤ 8 then
    if w < 2 ^ 6 then .ok (.sel6 (BitVec.ofNat 6 w)) else .error .wrongWidth
  else if nbits ≤ 16 then
    if w < 2 ^ 11 then .ok (.civ11 (BitVec.ofNat 11 w)) else .error .wrongWidth
  else
    if w < 2 ^ 64 then .ok (.frame64 (BitVec.ofNat 64 w)) else .error .wrongWidth

/-- The instruction the decoder reads from the bits of a row of spec/opcode_table.json. -/
def decodeTableWord (nbits w : Nat) : Option Instr :=
  match codeOfBits nbits w with
  | .ok c => (decode c).toOption
  | .error _ => none

end Sys2Proof
end

