-- ==== Sys2Proof/Machine/State.lean ====
section
/-! DEFINITION. The state of ESYNC (10_state R30 to R34), the model's own fields beside it (the input
ports and what drives them), the reasons a step can stop, reset (R40) and power-up (R235). -/

namespace Sys2Proof.Machine

/-- One queued move of the environment (R27, R78, R79). -/
inductive Input where
  /-- One line of stimulus: the cycle input vector applied at one clock edge (R75, R78). -/
  | vector (v : Civ)
  /-- Eight bytes offered at eight edges by an always-ready consumer's `FEED`, given as the 64-bit
  value of R53; the pseudo-instruction FRAME where they form a frame (R79). -/
  | frame (F : FrameWord)
  deriving DecidableEq, Repr

/-- Why a step faults: never. ESYNC raises no exception of any kind (R200), and a model that
introduces a trap outcome departs from the spec (R204). -/
inductive Fault where
  deriving DecidableEq, Repr

/-- Why a step refuses. -/
inductive Refusal where
  /-- Raised by an arm of `exec` for an instruction that has no meaning yet. No arm raises it. Safe:
  the model stops where the hardware goes on. -/
  | notModelled (mnemonic : String)
  deriving DecidableEq, Repr

/-- All state of ESYNC, 124 bits (R34), then the model's own fields. -/
structure State where
  /-- `cnt`, the number of pending window bytes, 0 to 7 (R30). -/
  cnt : BitVec 3
  /-- `win[0..6]`, the window storage; only `win[0..cnt-1]` is meaningful (R31). -/
  win : Window
  /-- `ov`, the output-valid flag (R32). -/
  ov : Bool
  /-- `fr[0..7]`, the output frame register (R33). -/
  fr : Frame
  /-- MODEL'S OWN: the vector on the input ports, sampled at the current edge (R11, R75). -/
  civ : Civ
  /-- MODEL'S OWN: the environment's queued moves, the next one first (R27, R78). -/
  inputs : List Input
  /-- MODEL'S OWN: how many free vectors have been drawn from the environment (log entry 2). -/
  draws : Nat
  deriving DecidableEq, Repr

/-- The machine right after a reset edge: the values of R40. The ports still show the reset vector
(canonical RST, R78) and the environment has queued nothing (log entry 3). -/
def State.reset : State where
  cnt := 0#3
  win := #v[0x00#8, 0x00#8, 0x00#8, 0x00#8, 0x00#8, 0x00#8, 0x00#8]
  ov := false
  fr := #v[0x00#8, 0x00#8, 0x00#8, 0x00#8, 0x00#8, 0x00#8, 0x00#8, 0x00#8]
  civ := 0x400#11
  inputs := []
  draws := 0

/-- The machine from power-up to the first reset edge: an arbitrary draw (R235). -/
def State.powerUp : State where
  cnt := Config.powerUpCnt
  win := Config.powerUpWin
  ov := Config.powerUpOv
  fr := Config.powerUpFr
  civ := 0x000#11
  inputs := []
  draws := 0

end Sys2Proof.Machine
end

