-- ==== Sys2Proof/Machine/Flags.lean ====
section
/-! DEFINITION. The flags and the combinational signals of the FrameSynchronizer, as functions of the
state in a cycle: its registers before the edge and the vector on its input ports (R11, R12, R104 to
R106, R77). -/

namespace Sys2Proof.Machine

/-- `in_data` in this cycle (R22). -/
def inData (s : State) : Byte := civInData s.civ

/-- `in_ready = (rst = 0) AND ((ov = 0) OR (out_ready = 1))` (R106). -/
def inReady (s : State) : Bool := !civRst s.civ && (!s.ov || civOutReady s.civ)

/-- `out_valid = ov` (R23, R32). -/
def outValid (s : State) : Bool := s.ov

/-- `InFire = in_valid AND in_ready` (R12). -/
def inFire (s : State) : Bool := civInValid s.civ && inReady s

/-- `OutFire = ov AND out_ready` (R12). R110: in a reset cycle the consumer may count it as a delivery
and ESYNC does not distinguish. -/
def outFire (s : State) : Bool := s.ov && civOutReady s.civ

/-- `full = (cnt = 7)` (R77). -/
def full (s : State) : Bool := s.cnt == 7#3

/-- The SlidingWindow `win[0..cnt-1]`, oldest byte first (R30). -/
def pending (s : State) : List Byte := s.win.toList.take s.cnt.toNat

/-- The candidate window `w = win[0..cnt-1] ++ [in_data]`, in a cycle with `InFire` (R104; without it, log
entry 8). -/
def candidate (s : State) : List Byte := pending s ++ [inData s]

/-- The eight bytes `[win[0], …, win[6], b]` evaluated when the window is full (R109). -/
def window8 (win : Window) (b : Byte) : Frame :=
  #v[win[0], win[1], win[2], win[3], win[4], win[5], win[6], b]

/-- The candidate window of a full window, eight bytes, in a cycle with `InFire` (R104, R109; without it, log
entry 8). -/
def candidate8 (s : State) : Frame := window8 s.win (inData s)

/-- `fv = FrameValid(w)` of a full window (R77). In two cases the spec fixes no value of the bit and no row
of the table reads it; what stands there is the model's choice (DESIGN CHOICE, log entry 8). While `full`
is 0 it is 0, so that no stale byte of `win` is read (R31). With `full` = 1 and `InFire` = 0 (NOP, POP,
STALL, reset) R104 forms no candidate window, and it is `FrameValid` of `win` and the ignored
`in_data`. -/
def fv (s : State) : Bool := full s && frameValid (candidate8 s)

/-- An evaluation occurs at this edge (R105). -/
def evaluates (s : State) : Bool := !civRst s.civ && inFire s && full s

/-- The combinational hit signal (R105). -/
def hit (s : State) : Bool := !civRst s.civ && inFire s && full s && frameValid (candidate8 s)

/-- The selection vector of this cycle (R77). -/
def selVector (s : State) : Sel :=
  mkSel (civRst s.civ) (civInValid s.civ) (civOutReady s.civ) s.ov (full s) (fv s)

end Sys2Proof.Machine
end

