-- ==== Sys2Proof/Machine/Ops.lean ====
section
/-! DEFINITION. The named operations over the registers that the meanings share: what each
micro-operation assigns (R113 to R116), the reset assignment (R110), the choice among ACCUM, HIT and
MISS for an accepted byte (R109), the environment's next move (R27), and how a harness places one.
No operation takes an exception: ESYNC has none (R200, R204). -/

namespace Sys2Proof.Machine

/-- The reset values of R40, assigned to the registers of R30 to R33 (R110). -/
def resetBlock (s : State) : State :=
  { s with cnt := State.reset.cnt, win := State.reset.win, ov := State.reset.ov,
           fr := State.reset.fr }

/-- ACCUM: `win'[cnt] <- b; cnt' <- cnt + 1` (R113). -/
def accum (b : Byte) (s : State) : State :=
  { s with win := s.win.setIfInBounds s.cnt.toNat b, cnt := s.cnt + 1#3 }

/-- HIT: `fr' <- w; cnt' <- 0; ov' <- 1`, `win` not written (R115). -/
def hitWith (w : Frame) (s : State) : State :=
  { s with fr := w, cnt := 0#3, ov := true }

/-- The window with its oldest byte dropped and `b` appended (R116). -/
def slide (win : Window) (b : Byte) : Window :=
  #v[win[1], win[2], win[3], win[4], win[5], win[6], b]

/-- MISS: `win'[k] <- win[k+1]`, `win'[6] <- b`, `cnt' <- 7` (R116). -/
def miss (b : Byte) (s : State) : State :=
  { s with win := slide s.win b, cnt := 7#3 }

/-- DELIVER: `ov' <- hit` (R114); `fr` is not cleared (R33). -/
def deliver (hitSignal : Bool) (s : State) : State :=
  { s with ov := hitSignal }

/-- The input side for an accepted byte: ACCUM below seven pending bytes, else the evaluation of the
eight-byte window with HIT or MISS (R104, R105, R109). -/
def consume (b : Byte) (s : State) : State :=
  if s.cnt = 7#3 then
    if frameValid (window8 s.win b) then hitWith (window8 s.win b) s else miss b s
  else
    accum b s

/-- Whether a selection vector selects a micro-operation, on either side (R77). -/
def selects (sv : Sel) (i : Instr) : Bool := selInput sv == some i || selOutput sv == some i

/-- A micro-operation's assignment, made in the cycles whose selection vector selects it; in any other
cycle it assigns nothing (R77, log entry 6). -/
def whenSelected (i : Instr) (assign : State → State) (s : State) : State :=
  if selects (selVector s) i then assign s else s

/-- The state in the cycle in which the environment drives `v` (R11, R75). -/
def present (v : Civ) (s : State) : State := { s with civ := v }

/-- One `PUSHPOP b` edge, the line `FEED` repeats (R79, R118). -/
def feedByte (s : State) (b : Byte) : State :=
  consume b (deliver false (present (mkCiv false true true b) s))

/-- `FEED b0, …, bk`: one `PUSHPOP` edge per byte, in order (R79). -/
def feed (bs : List Byte) (s : State) : State := bs.foldl feedByte s

/-- The environment's next move: the queue's head, or a free vector where nothing is queued (R27,
log entry 2). -/
def nextInput (s : State) : Input × State :=
  match s.inputs with
  | i :: rest => (i, { s with inputs := rest })
  | [] => (.vector (Config.envInput s.draws), { s with draws := s.draws + 1 })

/-- Queues one move before all others. -/
def queueInput (i : Input) (s : State) : State := { s with inputs := i :: s.inputs }

/-- A state and a queued vector whose cycle has the selection vector `sv`: `ov` as `sv` says; where `sv`
says full, seven pending bytes that the vector's `in_data` makes a frame or not as `fv` says (log entry
9). -/
def queueSelection (sv : Sel) (s : State) : State :=
  let b : Byte := if selFv sv then 0x9D#8 else 0x00#8
  let t : State :=
    if selFull sv then
      { s with cnt := 7#3, win := #v[0x09#8, 0x94#8, 0x00#8, 0x00#8, 0x00#8, 0x00#8, 0x00#8] }
    else
      { s with cnt := if s.cnt = 7#3 then 0#3 else s.cnt }
  queueInput (.vector (mkCiv (selRst sv) (selInValid sv) (selOutReady sv) b))
    { t with ov := selOv sv }

/-- The bits of a row of spec/opcode_table.json placed so that the next step runs it (log entry 9). -/
def queueWord (nbits w : Nat) (s : State) : State :=
  if nbits ≤ 8 then queueSelection (BitVec.ofNat 6 w) s
  else if nbits ≤ 16 then queueInput (.vector (BitVec.ofNat 11 w)) s
  else queueInput (.frame (BitVec.ofNat 64 w)) s

end Sys2Proof.Machine
end

