-- ==== Sys2Proof/Machine/Commands.lean ====
section
/-! DEFINITION. The meanings of the five cycle commands, one clock edge each (R109, R110 to R112,
R117, R118). Every assignment reads the registers before the edge (R11). -/

namespace Sys2Proof.Machine

/-- RST: every register takes its reset value, whatever the other inputs are (R110). -/
def execRst (s : State) : Host.Outcome State Fault Refusal := .next (resetBlock s)

/-- NOP: no assignment (R111). -/
def execNop (s : State) : Host.Outcome State Fault Refusal := .next s

/-- POP: a held frame is delivered and `ov' <- 0`; nothing else changes (R112, R114). -/
def execPop (s : State) : Host.Outcome State Fault Refusal := .next (deliver false s)

/-- PUSH b: with a frame held, STALL and nothing changes; else the byte is consumed (R117, R119). -/
def execPush (b : Byte) (s : State) : Host.Outcome State Fault Refusal :=
  .next (if s.ov then s else consume b s)

/-- PUSHPOP b: a held frame is delivered and the byte is consumed at the same edge (R118, R203). -/
def execPushpop (b : Byte) (s : State) : Host.Outcome State Fault Refusal :=
  .next (consume b (deliver false s))

end Sys2Proof.Machine
end

