-- ==== Sys2Proof/Machine/FrameFeed.lean ====
section
/-! DEFINITION. The meaning of the table's FRAME row (R70, R102): its eight bytes arrive on the stream,
as the pseudo-instruction FRAME of R79 spells out. -/

namespace Sys2Proof.Machine

/-- FRAME: `FEED` of the frame's eight bytes in stream order, one `PUSHPOP` edge each (R79, R118). What
the bytes then do is the synchronizer's business: on an empty window the eighth edge is a HIT exactly
when R102 holds (log entry 10). -/
def execFrame (dev mant : BitVec 16) (exp ck : Byte) (s : State) :
    Host.Outcome State Fault Refusal :=
  .next (feed (frameOfFields dev mant exp ck).toList s)

end Sys2Proof.Machine
end

