-- ==== Sys2Proof/Machine/MicroOps.lean ====
section
/-! DEFINITION. The meanings of the micro-operation rows (R77, R113 to R116, R119). A micro-operation
takes its operands from the cycle it stands in: `b = in_data`, and the registers before the edge. -/

namespace Sys2Proof.Machine

/-- STALL: no assignment; the byte is not consumed (R119). -/
def execStall (s : State) : Host.Outcome State Fault Refusal := .next s

/-- ACCUM in a cycle with `out_ready = 1` (R113, row `011x0x`). -/
def execAccumReady (s : State) : Host.Outcome State Fault Refusal :=
  .next (whenSelected .accumReady (accum (inData s)) s)

/-- ACCUM in a cycle with `out_ready = 0` and `ov = 0` (R113, row `01000x`). -/
def execAccumEmpty (s : State) : Host.Outcome State Fault Refusal :=
  .next (whenSelected .accumEmpty (accum (inData s)) s)

/-- HIT in a cycle with `out_ready = 1` (R115, row `011x11`). -/
def execHitReady (s : State) : Host.Outcome State Fault Refusal :=
  .next (whenSelected .hitReady (hitWith (candidate8 s)) s)

/-- HIT in a cycle with `out_ready = 0` and `ov = 0` (R115, row `010011`). -/
def execHitEmpty (s : State) : Host.Outcome State Fault Refusal :=
  .next (whenSelected .hitEmpty (hitWith (candidate8 s)) s)

/-- MISS in a cycle with `out_ready = 1` (R116, row `011x10`). -/
def execMissReady (s : State) : Host.Outcome State Fault Refusal :=
  .next (whenSelected .missReady (miss (inData s)) s)

/-- MISS in a cycle with `out_ready = 0` and `ov = 0` (R116, row `010010`). -/
def execMissEmpty (s : State) : Host.Outcome State Fault Refusal :=
  .next (whenSelected .missEmpty (miss (inData s)) s)

/-- DELIVER: the consumer takes `fr` as it stood before the edge and `ov' <- hit` (R114). -/
def execDeliver (s : State) : Host.Outcome State Fault Refusal :=
  .next (whenSelected .deliver (deliver (hit s)) s)

end Sys2Proof.Machine
end

