-- ==== Sys2Proof/Machine/Dispatch.lean ====
section
/-! DEFINITION. The dispatch of every row of the opcode table to its meaning. -/

namespace Sys2Proof.Machine

def exec (i : Instr) (s : State) : Host.Outcome State Fault Refusal :=
  match i with
  | .rst => Sys2Proof.Machine.execRst s
  | .nop => Sys2Proof.Machine.execNop s
  | .pop => Sys2Proof.Machine.execPop s
  | .push b => Sys2Proof.Machine.execPush b s
  | .pushpop b => Sys2Proof.Machine.execPushpop b s
  | .frame dev mant exp ck => Sys2Proof.Machine.execFrame dev mant exp ck s
  | .stall => Sys2Proof.Machine.execStall s
  | .accumReady => Sys2Proof.Machine.execAccumReady s
  | .accumEmpty => Sys2Proof.Machine.execAccumEmpty s
  | .hitReady => Sys2Proof.Machine.execHitReady s
  | .hitEmpty => Sys2Proof.Machine.execHitEmpty s
  | .missReady => Sys2Proof.Machine.execMissReady s
  | .missEmpty => Sys2Proof.Machine.execMissEmpty s
  | .deliver => Sys2Proof.Machine.execDeliver s

end Sys2Proof.Machine
end

