-- ==== Sys2Proof/Machine/Step.lean ====
section
/-! DEFINITION. One step: the environment's next move is presented on the ports and its instruction
runs (R20, R75, R76). -/

namespace Sys2Proof.Machine

/-- One step. A vector is one clock edge running the cycle command it selects (R76); a queued frame
runs as FRAME, and eight bytes that are no frame raise nothing and are fed all the same (R73, R79). -/
def step (s : State) : Host.Outcome State Fault Refusal :=
  match nextInput s with
  | (.vector v, t) => exec (decodeCiv v) (present v t)
  | (.frame F, t) =>
    match decodeFrame F with
    | .ok i => exec i t
    | .error _ => .next (feed (unpackFrame F).toList t)

/-- The state with the bits of an opcode-table row placed where the next step fetches: a vector or a
frame at the head of the queue, and for a selector row the cycle it selects (log entry 9). -/
def State.withFetchWord (s : State) (nbits w : Nat) : State := queueWord nbits w s

end Sys2Proof.Machine
end

