-- ==== Sys2Proof/Machine/NextState.lean ====
section
/-! DEFINITION. The complete next-state function of R109, written out register by register as the spec
prints it and independently of the commands' meanings, so that the two can be compared. -/

namespace Sys2Proof.Machine

/-- Whether this cycle consumes a byte, `InFire` of R109's own text. -/
def r109InFire (s : State) : Bool := civInValid s.civ && (!s.ov || civOutReady s.civ)

/-- Whether this cycle's byte fills a window of seven and makes a frame, `hit` of R109's own text. -/
def r109Hit (s : State) : Bool :=
  r109InFire s && s.cnt == 7#3 && frameValid (candidate8 s)

/-- R109: the registers after the edge of the cycle `s`, a vector on its ports. -/
def nextState (s : State) : State :=
  if civRst s.civ then
    { s with cnt := State.reset.cnt, ov := false, win := State.reset.win, fr := State.reset.fr }
  else
    { s with
      cnt :=
        if r109InFire s then
          if s.cnt.toNat < 7 then s.cnt + 1#3 else if r109Hit s then 0#3 else 7#3
        else s.cnt
      win :=
        if r109InFire s then
          if s.cnt.toNat < 7 then s.win.setIfInBounds s.cnt.toNat (inData s)
          else if r109Hit s then s.win
          else #v[s.win[1], s.win[2], s.win[3], s.win[4], s.win[5], s.win[6], inData s]
        else s.win
      fr := if r109Hit s then candidate8 s else s.fr
      ov := r109Hit s || (s.ov && !civOutReady s.civ) }

end Sys2Proof.Machine
end

