-- ==== Sys2Proof/Machine/Decoder.lean ====
section
/-! DEFINITION. The ReadingDecoder (41_decoder R150 to R161): pure functions of a frame, applied to the
output frame register `fr` by the ports of Machine/Ports.lean. Exact rational values are normative
(R152, R153); the fixed-point and binary64 ports encode them. -/

namespace Sys2Proof.Machine

/-- `dec_dev = {fr[2], fr[3]}` (R157). -/
def decDev (w : Frame) : BitVec 16 := frameDev w

/-- `dec_mant = {fr[4], fr[5]}` (R150). -/
def decMant (w : Frame) : BitVec 16 := frameMant w

/-- `dec_exp = fr[6]` (R151). -/
def decExp (w : Frame) : Byte := frameExp w

/-- `cur_exp = (zext_9(fr[6]) + 0x1F1) mod 512`, that is `tc_9(dec_exp - 15)` (R154). -/
def curExp (w : Frame) : BitVec 9 := (decExp w).zeroExtend 9 + 0x1F1#9

/-- `pow_mant = zext_24(dec_mant) * 240` (R155). -/
def powMant (w : Frame) : BitVec 24 :=
  (decMant w).zeroExtend 24 * BitVec.ofNat 24 Config.voltage

/-- The current in amps, `(mant / 32768) * 2^exp` (R152). -/
def current (w : Frame) : ℚ :=
  ((decMant w).toNat : ℚ) / (Config.mantScale : ℚ) * 2 ^ (decExp w).toNat

/-- The power in watts, `current * 240` (R153). -/
def power (w : Frame) : ℚ := current w * (Config.voltage : ℚ)

/-- `bexp` of `F64(M, E)`: the biased exponent of `M * 2^E` (R158). -/
def f64BiasedExp (m : Nat) (e : Int) : Int := (Nat.log2 m : Int) + e + 1023

/-- `frac` of `F64(M, E)`: the 52 bits below the leading 1 (R158). -/
def f64Frac (m : Nat) : Nat := m * 2 ^ (52 - Nat.log2 m) - 2 ^ 52

/-- `F64(M, E)`, the binary64 pattern of `M * 2^E` (R158). Outside the requirement `M < 2^53` and
`1 <= bexp <= 2046` the rule states no pattern, and the answer is a free value; the decoder never leaves
the requirement (R159, log entry 12). -/
def f64 (m : Nat) (e : Int) : BitVec 64 :=
  if m = 0 then 0#64
  else if m < 2 ^ 53 ∧ 1 ≤ f64BiasedExp m e ∧ f64BiasedExp m e ≤ 2046 then
    0#1 ++ BitVec.ofInt 11 (f64BiasedExp m e) ++ BitVec.ofNat 52 (f64Frac m)
  else Config.f64Unstated m e

/-- `cur_f64 = F64(dec_mant, dec_exp - 15)` (R159). -/
def curF64 (w : Frame) : BitVec 64 := f64 (decMant w).toNat ((decExp w).toNat - 15)

/-- `pow_f64 = F64(pow_mant, dec_exp - 15)` (R159). -/
def powF64 (w : Frame) : BitVec 64 := f64 (powMant w).toNat ((decExp w).toNat - 15)

/-- The sign bit of a binary64 pattern (R158). -/
def f64Sign (x : BitVec 64) : Bool := x.getLsbD 63

/-- The 11-bit exponent field of a binary64 pattern (R158). -/
def f64ExpField (x : BitVec 64) : Nat := (x.extractLsb' 52 11).toNat

/-- The 52-bit fraction field of a binary64 pattern (R158). -/
def f64FracField (x : BitVec 64) : Nat := (x.extractLsb' 0 52).toNat

/-- The value of a binary64 pattern that is `+0.0` or a positive normal number, the patterns R158
speaks of; `none` for every other pattern (PRESUMED: IEEE 754, log entry 11). -/
def f64Value (x : BitVec 64) : Option ℚ :=
  if x = 0#64 then some 0
  else if f64Sign x = false ∧ 1 ≤ f64ExpField x ∧ f64ExpField x ≤ 2046 then
    some (((2 ^ 52 + f64FracField x : Nat) : ℚ) * 2 ^ ((f64ExpField x : Int) - 1075))
  else none

end Sys2Proof.Machine
end

