-- ==== Sys2Proof/Machine/Diagnostics.lean ====
section
/-! DEFINITION. The diagnostic trace (42_diagnostics R180 to R183): combinational functions of the
cycle, for a block built with DIAG = `diag`. They write nothing (R182). -/

namespace Sys2Proof.Machine

/-- `dbg_byte_valid` (R181), constant 0 with DIAG = 0 (R180). -/
def dbgByteValid (diag : Bool) (s : State) : Bool := diag && inFire s

/-- `dbg_byte` (R181, R180). -/
def dbgByte (diag : Bool) (s : State) : Byte := if diag && inFire s then inData s else 0x00#8

/-- `dbg_eval_valid` (R181, R180). -/
def dbgEvalValid (diag : Bool) (s : State) : Bool := diag && evaluates s

/-- `dbg_sum` (R181, R180). -/
def dbgSum (diag : Bool) (s : State) : Byte :=
  if diag && evaluates s then checksum (candidate8 s) else 0x00#8

end Sys2Proof.Machine
end

