-- ==== Sys2Proof/Machine/Ports.lean ====
section
/-! DEFINITION. All output ports of ESYNC (R22 to R26), read in one cycle. Reading them changes nothing
(R57). -/

namespace Sys2Proof.Machine

/-- `out_frame = {fr[0], …, fr[7]}` (R23, R53). -/
def outFrame (s : State) : FrameWord := packFrame s.fr

/-- The decoder output ports (R24), functions of `fr` alone. -/
structure Reading where
  decDev : BitVec 16
  decMant : BitVec 16
  decExp : BitVec 8
  curExp : BitVec 9
  powMant : BitVec 24
  curF64 : BitVec 64
  powF64 : BitVec 64
  deriving DecidableEq, Repr

/-- The Reading of eight bytes (R156: it does not validate them again). -/
def readingOf (w : Frame) : Reading where
  decDev := decDev w
  decMant := decMant w
  decExp := decExp w
  curExp := curExp w
  powMant := powMant w
  curF64 := curF64 w
  powF64 := powF64 w

/-- The diagnostic output ports (R25). -/
structure Diagnostics where
  dbgByteValid : Bool
  dbgByte : Byte
  dbgEvalValid : Bool
  dbgSum : Byte
  deriving DecidableEq, Repr

/-- Every output port (R26). -/
structure Outputs where
  inReady : Bool
  outValid : Bool
  outFrame : FrameWord
  reading : Reading
  diagnostics : Diagnostics
  deriving DecidableEq, Repr

/-- The output ports in a cycle of a block built with DIAG = `diag` (R22 to R26). -/
def outputsOf (diag : Bool) (s : State) : Outputs where
  inReady := inReady s
  outValid := outValid s
  outFrame := outFrame s
  reading := readingOf s.fr
  diagnostics :=
    { dbgByteValid := dbgByteValid diag s
      dbgByte := dbgByte diag s
      dbgEvalValid := dbgEvalValid diag s
      dbgSum := dbgSum diag s }

/-- The output ports of the block as built (R8). -/
def outputs (s : State) : Outputs := outputsOf Config.diag s

end Sys2Proof.Machine
end

