-- ==== Sys2Proof/Machine/Stimulus.lean ====
section
/-! DEFINITION. The stimulus notation (R78) and its pseudo-instructions (R79), expanded to cycle input
vectors. -/

namespace Sys2Proof.Machine

/-- One line of stimulus (R78) or one pseudo-instruction (R79). -/
inductive StimulusLine where
  | rst
  | nop
  | pop
  | push (b : Byte)
  | pushpop (b : Byte)
  | wait (n : Nat)
  | feed (bs : List Byte)
  | hfeed (bs : List Byte)
  | frame (d2 d3 mh ml e : Byte)
  | badframe (d2 d3 mh ml e : Byte)
  deriving DecidableEq, Repr

/-- `c = (0x9D + d2 + d3 + mh + ml + e) mod 256` (R79, R71). -/
def stimulusChecksum (d2 d3 mh ml e : Byte) : Byte := 0x9D#8 + d2 + d3 + mh + ml + e

/-- `PUSH b` as a vector (R78). -/
def pushVector (b : Byte) : Civ := mkCiv false true false b

/-- `PUSHPOP b` as a vector (R78). -/
def pushpopVector (b : Byte) : Civ := mkCiv false true true b

/-- The canonical vectors a line stands for, one per clock edge (R78, R79). -/
def StimulusLine.expand (l : StimulusLine) : List Civ :=
  match l with
  | .rst => [mkCiv true false false 0x00#8]
  | .nop => [mkCiv false false false 0x00#8]
  | .pop => [mkCiv false false true 0x00#8]
  | .push b => [pushVector b]
  | .pushpop b => [pushpopVector b]
  | .wait n => List.replicate n (mkCiv false false false 0x00#8)
  | .feed bs => bs.map pushpopVector
  | .hfeed bs => bs.map pushVector
  | .frame d2 d3 mh ml e =>
    [0x09#8, 0x94#8, d2, d3, mh, ml, e, stimulusChecksum d2 d3 mh ml e].map pushpopVector
  | .badframe d2 d3 mh ml e =>
    [0x09#8, 0x94#8, d2, d3, mh, ml, e, stimulusChecksum d2 d3 mh ml e + 1#8].map pushpopVector

/-- The vectors of several lines, in order. -/
def expandLines (ls : List StimulusLine) : List Civ := ls.flatMap StimulusLine.expand

end Sys2Proof.Machine
end

