-- ==== Sys2Proof/Machine/Stream.lean ====
section
/-! DEFINITION. The stream-level description of ESYNC: what an observer at the ports records (R51, R58),
the scan `Frames(S)` of R59, and the source's algorithm of R120. None of it is state of the block (R34:
"the core holds no history"). -/

namespace Sys2Proof.Machine

/-- What has passed the ports since the last reset edge (R51, R58, R59). -/
structure Observer where
  /-- The bytes transferred by `InFire`, in edge order: the stream `S` (R51). -/
  stream : List Byte
  /-- The frames emitted by a HIT, each with the stream offset of its byte 0 (R59, R115). -/
  emitted : List (Nat × Frame)
  /-- The frames delivered by `OutFire` (R12, R58). -/
  delivered : List Frame
  deriving DecidableEq, Repr

/-- Nothing recorded. -/
def Observer.empty : Observer := ⟨[], [], []⟩

/-- What the observer has recorded after the edge of the cycle `s`. A reset edge starts the stream
again (R231), the frames emitted (R59), and with them those delivered (log entry 13). -/
def observe (s : State) (o : Observer) : Observer :=
  if civRst s.civ then Observer.empty
  else
    { stream := o.stream ++ (if inFire s then [inData s] else [])
      emitted := o.emitted ++ (if hit s then [(o.stream.length - 7, candidate8 s)] else [])
      delivered := o.delivered ++ (if outFire s then [s.fr] else []) }

/-- The block after one clock edge with `v` on the ports, and the observer beside it. -/
def edge (v : Civ) (p : State × Observer) : State × Observer :=
  match exec (decodeCiv v) (present v p.1) with
  | .next t => (t, observe (present v p.1) p.2)
  | .fault _ => p
  | .refused _ => p

/-- The block and its observer after a sequence of clock edges. -/
def runEdges (vs : List Civ) (p : State × Observer) : State × Observer :=
  vs.foldl (fun q v => edge v q) p

/-- The first eight bytes of a stream, where there are eight (R59). -/
def firstEight (S : List Byte) : Option Frame :=
  match S with
  | b0 :: b1 :: b2 :: b3 :: b4 :: b5 :: b6 :: b7 :: _ => some #v[b0, b1, b2, b3, b4, b5, b6, b7]
  | _ => none

/-- The scan of R59 from stream offset `i`, after `skip` bytes that belong to an emitted frame: the
frames emitted with their offsets, and the bytes from the position where the scan stops. -/
def scan (skip i : Nat) (S : List Byte) : List (Nat × Frame) × List Byte :=
  match skip, S with
  | _, [] => ([], [])
  | k + 1, _ :: rest => scan k (i + 1) rest
  | 0, b :: rest =>
    match firstEight (b :: rest) with
    | none => ([], b :: rest)
    | some w =>
      if frameValid w then
        ((i, w) :: (scan 7 (i + 1) rest).1, (scan 7 (i + 1) rest).2)
      else scan 0 (i + 1) rest

/-- `Frames(S)` with the offset each frame starts at (R59). -/
def framesOf (S : List Byte) : List (Nat × Frame) := (scan 0 0 S).1

/-- The bytes of `S` from the scan's position on: fewer than eight, not yet classified (R60). -/
def unclassified (S : List Byte) : List Byte := (scan 0 0 S).2

/-- The source's algorithm (R120), called again after each frame it returns: read a byte, append it; at
eight bytes return the window if it is a frame and clear it, else discard its first byte. -/
def sourceFrames (window : List Byte) (S : List Byte) : List Frame :=
  match S with
  | [] => []
  | b :: rest =>
    match firstEight (window ++ [b]) with
    | none => sourceFrames (window ++ [b]) rest
    | some w =>
      if frameValid w then w :: sourceFrames [] rest
      else sourceFrames (window ++ [b]).tail rest

end Sys2Proof.Machine
end

