-- ==== Sys2Proof/Safety.lean ====
section
/-! DEFINITION. What counts as a good state and a good run, in the terms the statements use. -/

namespace Sys2Proof.Machine

/-- The register `fr` holds a valid frame or its reset value, and a valid frame whenever `ov` says it
holds one (R32, R33). -/
def FrameInv (s : State) : Prop :=
  (frameValid s.fr = true ∨ s.fr = State.reset.fr) ∧ (s.ov = true → frameValid s.fr = true)

/-- The block and its observer tell the same story: what was emitted is `Frames(S)`, the pending bytes
are what the scan leaves, and every frame emitted was delivered once, in order, but for the one held
(R58, R59, R60). -/
def StreamInv (p : State × Observer) : Prop :=
  p.2.emitted = framesOf p.2.stream ∧
  pending p.1 = unclassified p.2.stream ∧
  p.2.emitted.map Prod.snd = p.2.delivered ++ (if p.1.ov then [p.1.fr] else [])

/-- Two states that differ at most in the stale window bytes `win[cnt..6]` (R31, R35). -/
def AgreeButStale (s t : State) : Prop :=
  s.cnt = t.cnt ∧ pending s = pending t ∧ s.ov = t.ov ∧ s.fr = t.fr ∧
  s.civ = t.civ ∧ s.inputs = t.inputs ∧ s.draws = t.draws

/-- Everything but the block's registers is the same in two states. -/
def SameEnvironment (s t : State) : Prop :=
  s.civ = t.civ ∧ s.inputs = t.inputs ∧ s.draws = t.draws

/-- `t` is `s` with the byte `b` appended to the window and nothing else changed (R113). -/
def Appended (b : Byte) (s t : State) : Prop :=
  t.cnt.toNat = s.cnt.toNat + 1 ∧ pending t = pending s ++ [b] ∧
  (∀ k, (h : k < 7) → k ≠ s.cnt.toNat → t.win[k] = s.win[k]) ∧
  t.ov = s.ov ∧ t.fr = s.fr ∧ SameEnvironment s t

/-- `t` is `s` with the frame `w` emitted: `fr` is `w`, the window empty, `ov` set, the window bytes left
stale, and nothing else changed (R115). -/
def Emitted (w : Frame) (s t : State) : Prop :=
  t.fr = w ∧ t.cnt = 0#3 ∧ pending t = [] ∧ t.ov = true ∧ t.win = s.win ∧ SameEnvironment s t

/-- `t` is `s` with the oldest window byte discarded, `b` appended, and nothing else changed (R116). -/
def Slid (b : Byte) (s t : State) : Prop :=
  t.cnt = 7#3 ∧ pending t = (pending s ++ [b]).tail ∧ t.ov = s.ov ∧ t.fr = s.fr ∧
  SameEnvironment s t

/-- The four registers of ESYNC are the same in two states. -/
def SameRegisters (s t : State) : Prop :=
  s.cnt = t.cnt ∧ s.win = t.win ∧ s.ov = t.ov ∧ s.fr = t.fr

/-- No eight consecutive bytes of a stream that start before offset `n` form a frame. -/
def NoFrameBefore (n : Nat) (S : List Byte) : Prop :=
  ∀ i w, i < n → firstEight (S.drop i) = some w → frameValid w = false

end Sys2Proof.Machine
end

