-- ==== Sys2Proof/Certificates/Slice0/Obligations.lean ====
section
/-! DEFINITION. The statements for the provers, from the spec's numbered rules. -/

open Sys2Proof Sys2Proof.Machine

/-! ### Encodings -/

/-- Every well-formed instruction's canonical word decodes to it, every operand kept (R70, R76, R77). -/
def Obligations.DecodeEncodeRoundTrip : Prop :=
  ∀ i : Instr, i.wellFormed = true → decode (encode i) = .ok i

/-- A 64-bit value the decoder reads as a frame is a well-formed one, and no bit of it is dropped. -/
def Obligations.DecodedFrameIsWellFormedAndKeepsEveryBit : Prop :=
  ∀ (F : FrameWord) (i : Instr), decode (.frame64 F) = .ok i →
    i.wellFormed = true ∧ encode i = .frame64 F

/-- R71: the header as a match and mask, the full test, and, by R71's own inference, the equivalent form
given the header; and the decoder accepts exactly the valid values. -/
def Obligations.FrameIsHeaderMatchAndChecksum : Prop :=
  ∀ F : FrameWord,
    (headerMatch (unpackFrame F) = true ↔
      F &&& 0xFFFF000000000000#64 = 0x0994000000000000#64) ∧
    (frameValid (unpackFrame F) = true ↔
      F &&& 0xFFFF000000000000#64 = 0x0994000000000000#64 ∧
      (F.extractLsb' 0 8).toNat =
        ((F.extractLsb' 56 8).toNat + (F.extractLsb' 48 8).toNat + (F.extractLsb' 40 8).toNat +
          (F.extractLsb' 32 8).toNat + (F.extractLsb' 24 8).toNat + (F.extractLsb' 16 8).toNat +
          (F.extractLsb' 8 8).toNat) % 256) ∧
    (F &&& 0xFFFF000000000000#64 = 0x0994000000000000#64 →
      (frameValid (unpackFrame F) = true ↔
        (F.extractLsb' 0 8).toNat =
          (0x9D + (F.extractLsb' 40 8).toNat + (F.extractLsb' 32 8).toNat +
            (F.extractLsb' 24 8).toNat + (F.extractLsb' 16 8).toNat +
            (F.extractLsb' 8 8).toNat) % 256)) ∧
    ((∃ i, decode (.frame64 F) = .ok i) ↔ frameValid (unpackFrame F) = true)

/-- R76: every vector selects the command its three control bits name, with `in_data` as the operand of
the two that have one; and, by R76's own inference, exactly one CIV11 row of the table applies to it. -/
def Obligations.CycleVectorSelectsExactlyOneCommand : Prop :=
  ∀ v : Civ,
    (v.getLsbD 10 = true → decode (.civ11 v) = .ok .rst) ∧
    (v.extractLsb' 8 3 = 0b000#3 → decode (.civ11 v) = .ok .nop) ∧
    (v.extractLsb' 8 3 = 0b001#3 → decode (.civ11 v) = .ok .pop) ∧
    (v.extractLsb' 8 3 = 0b010#3 → decode (.civ11 v) = .ok (.push (v.extractLsb' 0 8))) ∧
    (v.extractLsb' 8 3 = 0b011#3 → decode (.civ11 v) = .ok (.pushpop (v.extractLsb' 0 8))) ∧
    (∀ i : Instr, (rowOf i).nbits = 11 →
      ((rowOf i).applies v.toNat = true ↔ rowOf i = rowOf (decodeCiv v)))

/-- R77: a selection vector selects an input-side micro-operation exactly by its row, and DELIVER
exactly by its row; in a reset cycle neither side selects one. -/
def Obligations.SelectionVectorSelectsByItsRows : Prop :=
  ∀ sv : Sel,
    (∀ i ∈ [Instr.stall, .accumReady, .accumEmpty, .hitReady, .hitEmpty, .missReady, .missEmpty],
      (selInput sv = some i ↔ (rowOf i).applies sv.toNat = true)) ∧
    (selOutput sv = some .deliver ↔ (rowOf .deliver).applies sv.toNat = true) ∧
    (sv.getLsbD 5 = true → selInput sv = none ∧ selOutput sv = none) ∧
    (sv.getLsbD 5 = false → ((selInput sv).isSome = true ↔ sv.getLsbD 4 = true))

/-- A few words written out from the tables of 95_test_vectors L2-E and L1-1 decode as they say. -/
def Obligations.WrittenOutWordsDecode : Prop :=
  decodeTableWord 16 0x5AB = some .rst ∧
  decodeTableWord 16 0x0FF = some .nop ∧
  decodeTableWord 16 0x1AB = some .pop ∧
  decodeTableWord 16 0x209 = some (.push 0x09#8) ∧
  decodeTableWord 16 0x3DE = some (.pushpop 0xDE#8) ∧
  decodeTableWord 64 0x09940000400001DE = some (.frame 0x0000#16 0x4000#16 0x01#8 0xDE#8) ∧
  decodeTableWord 8 0b010100 = some .stall ∧
  decodeTableWord 8 0b001100 = some .deliver

/-! ### Validation -/

/-- R101: the checksum is the sum of bytes 0 to 6 modulo 256; and, by R101's own inference, the sum fits
in 11 bits and adding in eight bits at every stage gives the same byte. -/
def Obligations.ChecksumIsSumModulo256 : Prop :=
  ∀ w : Frame,
    (checksum w).toNat = (w[0].toNat + w[1].toNat + w[2].toNat + w[3].toNat + w[4].toNat +
      w[5].toNat + w[6].toNat) % 256 ∧
    byteSum w ≤ 1785 ∧ byteSum w < 2 ^ 11 ∧
    checksum w = w[0] + w[1] + w[2] + w[3] + w[4] + w[5] + w[6]

/-- R103, an inference of the spec's own: a header, five bytes and their checksum always form a frame;
changing exactly one byte of a frame never leaves one; adding 1 to byte 2 and taking 1 from byte 3
always does. -/
def Obligations.ChecksumExactness : Prop :=
  (∀ p2 p3 p4 p5 p6 : Byte,
    frameValid #v[0x09#8, 0x94#8, p2, p3, p4, p5, p6, 0x9D#8 + p2 + p3 + p4 + p5 + p6] = true) ∧
  (∀ (w : Frame) (k : Nat) (h : k < 8) (b : Byte), frameValid w = true → b ≠ w[k] →
    frameValid (w.set k b) = false) ∧
  (∀ w : Frame, frameValid w = true →
    frameValid ((w.set 2 (w[2] + 1#8)).set 3 (w[3] - 1#8)) = true)

/-! ### Cycle commands -/

/-- R110: RST gives every register its reset value from every state, and a second RST changes nothing
more; a cycle with `rst = 1` is an RST whatever its other inputs are, and consumes no byte. -/
def Obligations.RstGivesResetValues : Prop :=
  (∀ s : State,
    exec .rst s =
      .next { s with cnt := 0#3, win := Vector.replicate 7 0x00#8, ov := false,
                     fr := Vector.replicate 8 0x00#8 } ∧
    ∀ t, exec .rst s = .next t → exec .rst t = .next t) ∧
  (∀ (s : State) (v : Civ), v.getLsbD 10 = true →
    inReady (present v s) = false ∧ inFire (present v s) = false ∧
    exec (decodeCiv v) (present v s) = exec .rst (present v s))

/-- R40 and R161: what reset leaves, in the registers and at the ports. -/
def Obligations.ResetStateAndItsPorts : Prop :=
  State.reset.cnt = 0#3 ∧ State.reset.win = Vector.replicate 7 0x00#8 ∧ State.reset.ov = false ∧
  State.reset.fr = Vector.replicate 8 0x00#8 ∧
  outValid State.reset = false ∧ outFrame State.reset = 0x0000000000000000#64 ∧
  readingOf State.reset.fr =
    { decDev := 0x0000#16, decMant := 0x0000#16, decExp := 0x00#8, curExp := 0x1F1#9,
      powMant := 0x000000#24, curF64 := 0x0000000000000000#64, powF64 := 0x0000000000000000#64 } ∧
  ∀ v : Civ, v.getLsbD 10 = false → inReady (present v State.reset) = true

/-- R111: a NOP keeps every register, consumes nothing and delivers nothing; `in_ready` is 1 exactly
when no frame is held; and any number of NOP cycles changes neither the block nor the stream. -/
def Obligations.NopKeepsEverything : Prop :=
  (∀ s : State, exec .nop s = .next s) ∧
  (∀ (s : State) (v : Civ), v.extractLsb' 8 3 = 0b000#3 →
    inFire (present v s) = false ∧ outFire (present v s) = false ∧
    inReady (present v s) = !s.ov) ∧
  (∀ (n : Nat) (s : State) (o : Observer), s.civ = 0x000#11 →
    runEdges (StimulusLine.wait n).expand (s, o) = (s, o))

/-- R112: POP clears `ov` and nothing else; the consumer takes `fr` exactly when a frame was held; and a
second POP delivers nothing. -/
def Obligations.PopDeliversTheHeldFrame : Prop :=
  (∀ s : State, exec .pop s = .next { s with ov := false }) ∧
  (∀ (s : State) (o : Observer) (v : Civ), v.extractLsb' 8 3 = 0b001#3 →
    (edge v (s, o)).1 = { s with ov := false, civ := v } ∧
    (edge v (s, o)).2 = { o with delivered := o.delivered ++ (if s.ov then [s.fr] else []) } ∧
    (edge v (edge v (s, o))).2 = (edge v (s, o)).2)

/-- R117: `in_ready` is NOT `ov` in a PUSH cycle; with a frame held PUSH changes nothing; with none held
the byte is appended to a window of fewer than seven bytes, and else the eight-byte window is emitted or
slides by one byte. -/
def Obligations.PushResult : Prop :=
  ∀ (b : Byte) (s : State),
    (inReady (present (0x200#11 ||| b.zeroExtend 11) s) = !s.ov) ∧
    (s.ov = true → exec (.push b) s = .next s) ∧
    (s.ov = false → s.cnt.toNat < 7 → ∃ t, exec (.push b) s = .next t ∧ Appended b s t) ∧
    (s.ov = false → s.cnt = 7#3 →
      (window8 s.win b).toList = pending s ++ [b] ∧
      (frameValid (window8 s.win b) = true →
        ∃ t, exec (.push b) s = .next t ∧ Emitted (window8 s.win b) s t) ∧
      (frameValid (window8 s.win b) = false → ∃ t, exec (.push b) s = .next t ∧ Slid b s t))

/-- R118: a PUSHPOP cycle is always ready and delivers the frame held before the edge, if one is; it
always consumes its byte, and the held frame is released at the same edge, so `ov` is 1 afterwards
exactly after a hit. -/
def Obligations.PushpopResult : Prop :=
  ∀ (b : Byte) (s : State),
    (inReady (present (0x300#11 ||| b.zeroExtend 11) s) = true ∧
      outFire (present (0x300#11 ||| b.zeroExtend 11) s) = s.ov ∧
      ∀ o, (observe (present (0x300#11 ||| b.zeroExtend 11) s) o).delivered =
        o.delivered ++ (if s.ov then [s.fr] else [])) ∧
    (s.cnt.toNat < 7 →
      ∃ t, exec (.pushpop b) s = .next t ∧ Appended b { s with ov := false } t) ∧
    (s.cnt = 7#3 →
      (window8 s.win b).toList = pending s ++ [b] ∧
      (frameValid (window8 s.win b) = true →
        ∃ t, exec (.pushpop b) s = .next t ∧ Emitted (window8 s.win b) { s with ov := false } t) ∧
      (frameValid (window8 s.win b) = false →
        ∃ t, exec (.pushpop b) s = .next t ∧ Slid b { s with ov := false } t))

/-- A hit at the edge that also delivers the held frame: the consumer takes the old frame, `fr` takes
the new one, and none is lost or duplicated (R118, R203). -/
def Obligations.HitAndDeliverAtOneEdge : Prop :=
  ∀ (s : State) (o : Observer) (b : Byte), s.ov = true → s.cnt = 7#3 →
    frameValid (window8 s.win b) = true →
    let p := edge (pushpopVector b) (s, o)
    p.2.delivered = o.delivered ++ [s.fr] ∧
    p.2.emitted.map Prod.snd = o.emitted.map Prod.snd ++ [window8 s.win b] ∧
    p.1.ov = true ∧ p.1.fr = window8 s.win b ∧ p.1.cnt = 0#3

/-! ### FRAME -/

/-- On an empty window the eight bytes of FRAME are emitted as one frame exactly when they are valid,
whatever was held before; otherwise the window keeps the last seven of them (R79, R102, R115, R116).
That the table's FRAME row means the feed of its eight bytes is the model's choice (log entry 10). -/
def Obligations.FrameOnEmptyWindow : Prop :=
  ∀ (dev mant : BitVec 16) (exp ck : Byte) (s : State), s.cnt = 0#3 →
    let w := frameOfFields dev mant exp ck
    (Instr.wellFormed (.frame dev mant exp ck) = true →
      exec (.frame dev mant exp ck) s =
        .next { s with cnt := 0#3, win := #v[w[0], w[1], w[2], w[3], w[4], w[5], w[6]],
                       ov := true, fr := w, civ := pushpopVector ck }) ∧
    (Instr.wellFormed (.frame dev mant exp ck) = false →
      exec (.frame dev mant exp ck) s =
        .next { s with cnt := 7#3, win := #v[w[1], w[2], w[3], w[4], w[5], w[6], w[7]],
                       ov := false, civ := pushpopVector ck })

/-- R79: from every state FRAME is the eight PUSHPOP edges of its bytes; a queued frame word, valid or
not, is eight steps of those vectors queued one by one. That one instruction, and one step, stand for
the eight edges is the model's choice (log entry 10). -/
def Obligations.FrameIsEightPushpopEdges : Prop :=
  (∀ (dev mant : BitVec 16) (exp ck : Byte) (s : State) (o : Observer),
    exec (.frame dev mant exp ck) s =
      .next (runEdges ((frameOfFields dev mant exp ck).toList.map pushpopVector) (s, o)).1) ∧
  (∀ (F : FrameWord) (q : List Input) (s : State), s.inputs = .frame F :: q →
    step s = Host.Core.run Sys2Proof.core 8
      { s with inputs :=
          (unpackFrame F).toList.map (fun b => Input.vector (pushpopVector b)) ++ q })

/-- R79: the line FRAME expands to the vectors of a valid frame with its five bytes, and BADFRAME to
those of eight bytes that fail only in the checksum. -/
def Obligations.StimulusFrameAndBadframe : Prop :=
  ∀ d2 d3 mh ml e : Byte,
    (∃ w : Frame, (StimulusLine.frame d2 d3 mh ml e).expand = w.toList.map pushpopVector ∧
      frameValid w = true ∧ w[2] = d2 ∧ w[3] = d3 ∧ w[4] = mh ∧ w[5] = ml ∧ w[6] = e) ∧
    (∃ w : Frame, (StimulusLine.badframe d2 d3 mh ml e).expand = w.toList.map pushpopVector ∧
      headerMatch w = true ∧ frameValid w = false)

/-! ### Micro-operations -/

/-- R113: in every cycle one of ACCUM's rows selects, ACCUM appends `in_data` and nothing else changes;
no hit occurs in that cycle. -/
def Obligations.AccumResult : Prop :=
  ∀ s : State,
    ((rowOf .accumReady).applies (selVector s).toNat = true →
      hit s = false ∧ ∃ t, exec .accumReady s = .next t ∧ Appended (inData s) s t) ∧
    ((rowOf .accumEmpty).applies (selVector s).toNat = true →
      hit s = false ∧ ∃ t, exec .accumEmpty s = .next t ∧ Appended (inData s) s t)

/-- R115: in every cycle one of HIT's rows selects, the candidate window is a valid frame of eight bytes
and HIT emits it. -/
def Obligations.HitResult : Prop :=
  ∀ s : State,
    ((rowOf .hitReady).applies (selVector s).toNat = true →
      (candidate8 s).toList = candidate s ∧ frameValid (candidate8 s) = true ∧ hit s = true ∧
      ∃ t, exec .hitReady s = .next t ∧ Emitted (candidate8 s) s t) ∧
    ((rowOf .hitEmpty).applies (selVector s).toNat = true →
      (candidate8 s).toList = candidate s ∧ frameValid (candidate8 s) = true ∧ hit s = true ∧
      s.ov = false ∧ ∃ t, exec .hitEmpty s = .next t ∧ Emitted (candidate8 s) s t)

/-- R116: in every cycle one of MISS's rows selects, the candidate window is no frame and MISS discards
exactly its first byte. -/
def Obligations.MissResult : Prop :=
  ∀ s : State,
    ((rowOf .missReady).applies (selVector s).toNat = true →
      frameValid (candidate8 s) = false ∧ hit s = false ∧
      ∃ t, exec .missReady s = .next t ∧ Slid (inData s) s t ∧ pending t = (candidate s).tail) ∧
    ((rowOf .missEmpty).applies (selVector s).toNat = true →
      frameValid (candidate8 s) = false ∧ hit s = false ∧
      ∃ t, exec .missEmpty s = .next t ∧ Slid (inData s) s t ∧ pending t = (candidate s).tail)

/-- R119: in every cycle STALL's row selects, the offered byte is not consumed, nothing changes and `ov`
stays 1. -/
def Obligations.StallResult : Prop :=
  ∀ s : State, (rowOf .stall).applies (selVector s).toNat = true →
    civInValid s.civ = true ∧ inReady s = false ∧ inFire s = false ∧ s.ov = true ∧
    exec .stall s = .next s ∧ ∀ o, (observe s o).stream = o.stream

/-- R114: in every cycle DELIVER's row selects, the consumer takes `fr` as it stood, `ov` becomes the
hit signal of the cycle, and nothing else changes, `fr` included; and a whole cycle with `rst = 0`
leaves `ov` at `hit OR (ov AND NOT out_ready)`, whether or not DELIVER is selected. -/
def Obligations.DeliverResult : Prop :=
  (∀ s : State, (rowOf .deliver).applies (selVector s).toNat = true →
    outFire s = true ∧ exec .deliver s = .next { s with ov := hit s } ∧
    ∀ o, (observe s o).delivered = o.delivered ++ [s.fr]) ∧
  (∀ (v : Civ) (s : State), v.getLsbD 10 = false →
    ∃ t, exec (decodeCiv v) (present v s) = .next t ∧
      t.ov = (hit (present v s) || (s.ov && !v.getLsbD 8)))

/-- The model's choice (log entry 6): a micro-operation's meaning, taken in a cycle whose selection
vector its row does not apply to, assigns nothing. -/
def Obligations.UnselectedMicroOpAssignsNothing : Prop :=
  ∀ s : State,
    ∀ i ∈ [Instr.stall, .accumReady, .accumEmpty, .hitReady, .hitEmpty, .missReady, .missEmpty,
        .deliver],
      (rowOf i).applies (selVector s).toNat = false → exec i s = .next s

/-- R77 and R203, with R77's own inference that one of each side applies: a cycle with `rst = 0`
performs the output-side micro-operation its selection vector selects and the input-side one, and its
command has no other effect. -/
def Obligations.CommandIsItsMicroOps : Prop :=
  ∀ (v : Civ) (s : State), v.getLsbD 10 = false →
    let c := present v s
    ∃ t,
      (match selOutput (selVector c) with
        | some i => exec i c
        | none => .next c) = .next t ∧
      exec (decodeCiv v) c =
        (match selInput (selVector c) with
          | some i => exec i t
          | none => .next t)

/-- R109: the command a vector selects computes the complete next-state function. -/
def Obligations.CommandsComputeTheNextStateFunction : Prop :=
  ∀ (v : Civ) (s : State), exec (decodeCiv v) (present v s) = .next (nextState (present v s))

/-! ### Flags, ports and the trace -/

/-- R106: when a byte is accepted, by the port values; and, by R106's own inference, a hit never
overwrites an undelivered frame. -/
def Obligations.HitNeverOverwritesAnUndeliveredFrame : Prop :=
  ∀ s : State,
    (inReady s = true ↔ civRst s.civ = false ∧ (s.ov = false ∨ civOutReady s.civ = true)) ∧
    (hit s = true → s.ov = false ∨ outFire s = true)

/-- R53: the byte lanes of `out_frame`, and its value as the big-endian number of its bytes. -/
def Obligations.OutFrameLanes : Prop :=
  ∀ s : State,
    (∀ (k : Nat) (h : k < 8), (outFrame s).extractLsb' (56 - 8 * k) 8 = s.fr[k]) ∧
    (outFrame s).toNat = s.fr.toList.foldl (fun n b => n * 256 + b.toNat) 0 ∧
    unpackFrame (outFrame s) = s.fr

/-- R33, with what R57 and R160 infer from it: an edge changes `fr`, and with it the decoder's outputs,
only at a hit or a reset; a held frame that is not taken stays held. -/
def Obligations.FrameRegisterChangesOnlyAtHitOrReset : Prop :=
  ∀ (v : Civ) (s t : State), exec (decodeCiv v) (present v s) = .next t →
    (t.fr ≠ s.fr → v.getLsbD 10 = true ∨ hit (present v s) = true) ∧
    (hit (present v s) = true → t.fr = candidate8 (present v s) ∧ t.ov = true) ∧
    (v.getLsbD 10 = false → outFire (present v s) = false → s.ov = true →
      t.ov = true ∧ t.fr = s.fr ∧ outFrame t = outFrame s ∧ readingOf t.fr = readingOf s.fr)

/-- R31, and R35's own inference: two states that differ only in stale window bytes show the same
outputs, and every instruction takes them to two such states again. -/
def Obligations.StaleWindowBytesAreUnobservable : Prop :=
  ∀ (s s' : State), AgreeButStale s s' →
    (∀ diag, outputsOf diag s = outputsOf diag s') ∧
    ∀ i : Instr, ∃ t t', exec i s = .next t ∧ exec i s' = .next t' ∧ AgreeButStale t t'

/-- R181: with DIAG = 1 the trace shows the byte of exactly the cycles that consume one, which an
observer's record of the stream confirms, and the checksum of exactly the evaluated windows. -/
def Obligations.TraceShowsBytesAndEvaluations : Prop :=
  ∀ (s : State) (o : Observer),
    (civRst s.civ = false → (observe s o).stream =
      o.stream ++ (if dbgByteValid true s then [dbgByte true s] else [])) ∧
    (dbgByteValid true s = true ↔ inFire s = true) ∧
    (dbgByteValid true s = true → dbgByte true s = inData s) ∧
    (dbgByteValid true s = false → dbgByte true s = 0x00#8) ∧
    (civRst s.civ = true → dbgByteValid true s = false ∧ dbgEvalValid true s = false) ∧
    (dbgEvalValid true s = true ↔
      civRst s.civ = false ∧ inFire s = true ∧ s.cnt = 7#3) ∧
    (dbgEvalValid true s = true →
      (candidate8 s).toList = candidate s ∧ dbgSum true s = checksum (candidate8 s)) ∧
    (dbgEvalValid true s = false → dbgSum true s = 0x00#8)

/-- R180 and R182: with DIAG = 0 the trace is constant 0, and no other output depends on DIAG. -/
def Obligations.DiagOnlyDrivesTheTrace : Prop :=
  ∀ s : State,
    (outputsOf false s).diagnostics =
      { dbgByteValid := false, dbgByte := 0x00#8, dbgEvalValid := false, dbgSum := 0x00#8 } ∧
    ∀ d, { outputsOf d s with diagnostics := (outputsOf false s).diagnostics } = outputsOf false s

/-! ### The ReadingDecoder -/

/-- R150, R151 and R157: the fields of a frame on the decoder's ports. -/
def Obligations.DecoderFields : Prop :=
  ∀ w : Frame,
    (decMant w).toNat = w[4].toNat * 256 + w[5].toNat ∧
    decMant w = (w[4].zeroExtend 16 <<< 8 ||| w[5].zeroExtend 16) ∧
    decExp w = w[6] ∧
    (decDev w).extractLsb' 8 8 = w[2] ∧ (decDev w).extractLsb' 0 8 = w[3]

/-- R154: `cur_exp` is `exp - 15` in two's complement, and scales the mantissa to the current. -/
def Obligations.CurExpIsExponentMinusFifteen : Prop :=
  ∀ w : Frame,
    (curExp w).toInt = (w[6].toNat : Int) - 15 ∧
    -15 ≤ (curExp w).toInt ∧ (curExp w).toInt ≤ 240 ∧
    current w = ((decMant w).toNat : ℚ) * (2 : ℚ) ^ (curExp w).toInt

/-- R155: `pow_mant` is the exact product, and `cur_exp` scales it to the power. -/
def Obligations.PowMantIsExactProduct : Prop :=
  ∀ w : Frame,
    (powMant w).toNat = (decMant w).toNat * 240 ∧ (powMant w).toNat ≤ 15728400 ∧
    powMant w = ((decMant w).zeroExtend 24 <<< 8) - ((decMant w).zeroExtend 24 <<< 4) ∧
    power w = ((powMant w).toNat : ℚ) * (2 : ℚ) ^ (curExp w).toInt

/-- The exact current of R152: its value, its zero, and, by R152's own inference, its bounds and that
they are met. -/
def Obligations.CurrentValueAndRange : Prop :=
  (∀ w : Frame,
    current w = ((decMant w).toNat : ℚ) * (2 : ℚ) ^ ((decExp w).toNat - 15 : Int) ∧
    0 ≤ current w ∧ (current w = 0 ↔ decMant w = 0#16) ∧
    current w ≤ 65535 * (2 : ℚ) ^ (240 : Nat) ∧
    (decMant w ≠ 0#16 → (2 : ℚ) ^ (-15 : Int) ≤ current w)) ∧
  (∃ w : Frame, frameValid w = true ∧ current w = 65535 * (2 : ℚ) ^ (240 : Nat)) ∧
  (∃ w : Frame, frameValid w = true ∧ current w = (2 : ℚ) ^ (-15 : Int))

/-- R153: the exact power, 240 times the current, and, by R153's own inference, its range. -/
def Obligations.PowerValueAndRange : Prop :=
  ∀ w : Frame,
    power w = current w * 240 ∧
    power w = ((decMant w).toNat : ℚ) * 240 * (2 : ℚ) ^ ((decExp w).toNat - 15 : Int) ∧
    0 ≤ power w ∧ power w ≤ 65535 * 240 * (2 : ℚ) ^ (240 : Nat)

/-- R158: within its requirement, `F64(M, E)` is the pattern of exactly `M * 2^E`, and of zero for `M =
0`. That a pattern's value is `f64Value` is the model's reading of IEEE 754 (log entry 11). -/
def Obligations.BinaryEncodingIsExact : Prop :=
  ∀ (m : Nat) (e : Int), m < 2 ^ 53 →
    (m = 0 → f64 m e = 0x0000000000000000#64) ∧
    (m ≠ 0 → 1 ≤ f64BiasedExp m e → f64BiasedExp m e ≤ 2046 →
      f64Sign (f64 m e) = false ∧ (f64ExpField (f64 m e) : Int) = f64BiasedExp m e ∧
      f64FracField (f64 m e) = f64Frac m ∧
      f64Value (f64 m e) = some ((m : ℚ) * (2 : ℚ) ^ e))

/-- R159's own inference: the binary64 ports are exact for every frame register, zero or normal, with
the exponent ranges the rule gives and the sign bit 0. The value of a pattern is the model's reading of
IEEE 754 (log entry 11). -/
def Obligations.BinaryPortsAreExact : Prop :=
  ∀ w : Frame,
    f64Value (curF64 w) = some (current w) ∧ f64Value (powF64 w) = some (power w) ∧
    f64Sign (curF64 w) = false ∧ f64Sign (powF64 w) = false ∧
    (decMant w = 0#16 → curF64 w = 0#64 ∧ powF64 w = 0#64) ∧
    (decMant w ≠ 0#16 →
      1008 ≤ f64ExpField (curF64 w) ∧ f64ExpField (curF64 w) ≤ 1278 ∧
      1015 ≤ f64ExpField (powF64 w) ∧ f64ExpField (powF64 w) ≤ 1286)

/-- R156: the current and power outputs depend on bytes 4, 5 and 6 alone, and, by R156's own inference,
equal values do not need equal fields. -/
def Obligations.DecoderReadsBytesFourToSix : Prop :=
  (∀ w w' : Frame, w[4] = w'[4] → w[5] = w'[5] → w[6] = w'[6] →
    { readingOf w with decDev := 0#16 } = { readingOf w' with decDev := 0#16 } ∧
    current w = current w' ∧ power w = power w') ∧
  (∀ w : Frame, (w[4] = 0x40#8 ∧ w[5] = 0x00#8 ∧ w[6] = 0x01#8) ∨
      (w[4] = 0x80#8 ∧ w[5] = 0x00#8 ∧ w[6] = 0x00#8) ∨
      (w[4] = 0x01#8 ∧ w[5] = 0x00#8 ∧ w[6] = 0x07#8) →
    current w = 1 ∧ curF64 w = 0x3FF0000000000000#64 ∧ powF64 w = 0x406E000000000000#64)

/-! ### The step -/

/-- A step presents the environment's next move and runs its instruction: the queued vector's command, a
free vector's where nothing is queued, the queued frame's where it is one; eight bytes that are no frame
are fed all the same. The queue and the free vectors are the model's environment (log entries 2, 10). -/
def Obligations.StepRunsTheDecodedInstruction : Prop :=
  ∀ (s : State),
    (∀ v q i, s.inputs = .vector v :: q → decode (.civ11 v) = .ok i →
      step s = exec i { s with inputs := q, civ := v }) ∧
    (∀ i, s.inputs = [] → decode (.civ11 (Config.envInput s.draws)) = .ok i →
      step s = exec i { s with draws := s.draws + 1, civ := Config.envInput s.draws }) ∧
    (∀ F q i, s.inputs = .frame F :: q → decode (.frame64 F) = .ok i →
      step s = exec i { s with inputs := q }) ∧
    (∀ F q e, s.inputs = .frame F :: q → decode (.frame64 F) = .error e →
      step s = .next (feed (unpackFrame F).toList { s with inputs := q }))

/-- R200: every instruction in every state, and every step, has a next state. -/
def Obligations.NothingEverTraps : Prop :=
  (∀ (i : Instr) (s : State), ∃ t, exec i s = .next t) ∧ ∀ s : State, ∃ t, step s = .next t

/-! ### Invariants -/

/-- Reset satisfies the invariant of the frame register. -/
def Obligations.ResetHasFrameInv : Prop := FrameInv State.reset

/-- R33's own inference: from every state that satisfies it, a step keeps the invariant of the frame
register: `fr` is a valid frame whenever `ov` is set, and otherwise a valid frame or the reset value. -/
def Obligations.StepKeepsFrameInv : Prop :=
  ∀ s t : State, FrameInv s → step s = .next t → FrameInv t

/-- Reset, with nothing recorded, satisfies the invariant of the stream. -/
def Obligations.ResetHasStreamInv : Prop := StreamInv (State.reset, Observer.empty)

/-- The inferences of R58, R59 and R60: every one-edge step keeps the invariant of the stream: what was
emitted is the scan of the stream, what is pending is what the scan leaves, and what was delivered is
what was emitted, in order, but for the frame held. -/
def Obligations.StepKeepsStreamInv : Prop :=
  ∀ (s t u : State) (o : Observer) (v : Civ), nextInput s = (.vector v, u) → step s = .next t →
    StreamInv (s, o) → StreamInv (t, observe (present v u) o)

/-! ### The stream -/

/-- R59, with R60's window, inferences of the spec's own: after any edges from reset, the frames emitted
since the last reset edge are exactly `Frames(S)`, those delivered are a first part of them, and the
pending bytes are the at most seven that the scan leaves. -/
def Obligations.RunEmitsExactlyTheFramesOfTheStream : Prop :=
  ∀ vs : List Civ,
    let p := runEdges vs (State.reset, Observer.empty)
    p.2.emitted = framesOf p.2.stream ∧
    p.2.delivered <+: (framesOf p.2.stream).map Prod.snd ∧
    pending p.1 = unclassified p.2.stream ∧ (pending p.1).length ≤ 7 ∧
    pending p.1 <:+ p.2.stream

/-- R120, an inference of the spec's own: the frames emitted are those the source's algorithm returns,
call after call, on the stream of bytes transferred. -/
def Obligations.RunAgreesWithTheSourceAlgorithm : Prop :=
  ∀ vs : List Civ,
    let p := runEdges vs (State.reset, Observer.empty)
    p.2.emitted.map Prod.snd = sourceFrames [] p.2.stream

/-- Consequences of R59, and R121's header gating and "never invalid": every emitted frame is eight
consecutive stream bytes and valid, and emitted frames never overlap. -/
def Obligations.EmittedFramesAreDisjointValidWindows : Prop :=
  ∀ vs : List Civ,
    let p := runEdges vs (State.reset, Observer.empty)
    (∀ i w, (i, w) ∈ p.2.emitted →
      firstEight (p.2.stream.drop i) = some w ∧ frameValid w = true ∧
      i + 8 ≤ p.2.stream.length) ∧
    p.2.emitted.Pairwise (fun a b => a.1 + 8 ≤ b.1)

/-- R121, "no false negatives" as 90_conflicts C1 qualifies it: a valid window of the stream was emitted
unless it starts strictly inside an emitted frame. -/
def Obligations.EveryValidWindowOutsideAFrameIsEmitted : Prop :=
  ∀ vs : List Civ,
    let p := runEdges vs (State.reset, Observer.empty)
    ∀ i w, firstEight (p.2.stream.drop i) = some w → frameValid w = true →
      (i, w) ∈ p.2.emitted ∨ ∃ j w', (j, w') ∈ p.2.emitted ∧ j < i ∧ i ≤ j + 7

/-- R121's resynchronization with R245's count: `n` noise bytes, then a frame, offered to a ready
consumer from reset: the frame is emitted at cycle `n + 8` and not before, at offset `n`, if no window
that starts in the noise is valid. -/
def Obligations.ResynchronisesAfterNoise : Prop :=
  ∀ (noise : List Byte) (F : Frame), frameValid F = true →
    NoFrameBefore noise.length (noise ++ F.toList) →
    let p := runEdges ((noise ++ F.toList).map pushpopVector) (State.reset, Observer.empty)
    p.2.emitted = [(noise.length, F)] ∧ p.1.ov = true ∧ p.1.fr = F ∧ p.1.cnt = 0#3 ∧
    (noise ++ F.toList).length = noise.length + 8 ∧
    (runEdges ((noise ++ F.toList).dropLast.map pushpopVector)
      (State.reset, Observer.empty)).2.emitted = []

/-- R123: a stream with no valid window emits nothing, however long it runs. -/
def Obligations.NoValidWindowNoFrame : Prop :=
  ∀ vs : List Civ,
    let p := runEdges vs (State.reset, Observer.empty)
    NoFrameBefore p.2.stream.length p.2.stream → p.2.emitted = [] ∧ p.1.ov = false

/-- R231 and R230, as the model's observer tells them: whatever state a run starts in, power-up
included, after a reset edge the block and its record are as if it had started from reset. For the stream
that is R231, and for the frames emitted it is R59. That the record of deliveries starts again too, so
that a frame taken at the reset edge itself is not in it, is the model's (log entry 13, DEDUCED); R110 lets
the consumer count that frame as delivered. -/
def Obligations.ResetEdgeForgetsThePast : Prop :=
  ∀ (before after : List Civ) (v : Civ) (s : State) (o : Observer), v.getLsbD 10 = true →
    let p := runEdges (before ++ v :: after) (s, o)
    let q := runEdges after (State.reset, Observer.empty)
    SameRegisters p.1 q.1 ∧ p.2 = q.2

/-- R118 and R245: with PUSHPOP in every cycle the block never stalls: one byte of the stream per cycle,
in the order offered. -/
def Obligations.ReadyConsumerNeverStalls : Prop :=
  ∀ (bs : List Byte) (s : State) (o : Observer),
    (runEdges (bs.map pushpopVector) (s, o)).2.stream = o.stream ++ bs ∧
    (bs.map pushpopVector).length = bs.length
end

