-- ==== Sys2Proof/Laws/Frame.lean ====
section
/-! SUPPORT. The byte lanes of a frame and its fields (Machine/Frame.lean, Machine/Operands.lean). -/

namespace Sys2Proof.Machine

theorem frame_ext {w w' : Frame} (h0 : w[0] = w'[0]) (h1 : w[1] = w'[1]) (h2 : w[2] = w'[2])
    (h3 : w[3] = w'[3]) (h4 : w[4] = w'[4]) (h5 : w[5] = w'[5]) (h6 : w[6] = w'[6])
    (h7 : w[7] = w'[7]) : w = w' := by
  apply Vector.ext
  intro k hk
  interval_cases k <;> assumption

theorem frame_eq_literal (w : Frame) :
    w = #v[w[0], w[1], w[2], w[3], w[4], w[5], w[6], w[7]] := by
  apply frame_ext <;> rfl

theorem frame_toList (w : Frame) :
    w.toList = [w[0], w[1], w[2], w[3], w[4], w[5], w[6], w[7]] := by
  apply List.ext_getElem (by simp)
  intro k hk _
  simp only [Vector.length_toList] at hk
  interval_cases k <;> simp

/-- Lane `k` of a packed frame is its byte `k` (R53). -/
theorem frameByte_packFrame (w : Frame) (k : Nat) (h : k < 8) :
    frameByte (packFrame w) k = w[k] := by
  apply BitVec.eq_of_getLsbD_eq
  intro j hj
  simp only [frameByte, packFrame, BitVec.getLsbD_extractLsb', BitVec.getLsbD_append]
  interval_cases k <;> interval_cases j <;> simp

@[simp] theorem unpackFrame_packFrame (w : Frame) : unpackFrame (packFrame w) = w := by
  apply frame_ext <;> simp [unpackFrame, frameByte_packFrame]

@[simp] theorem packFrame_unpackFrame (F : FrameWord) : packFrame (unpackFrame F) = F := by
  apply BitVec.eq_of_getLsbD_eq
  intro j hj
  simp only [unpackFrame, packFrame, BitVec.getLsbD_append]
  interval_cases j <;> simp [frameByte]

theorem append_extract_low (a b : Byte) : (a ++ b : BitVec 16).extractLsb' 0 8 = b := by
  apply BitVec.eq_of_getLsbD_eq
  intro j hj
  rw [BitVec.getLsbD_extractLsb', BitVec.getLsbD_append]
  simp [hj]

theorem append_extract_high (a b : Byte) : (a ++ b : BitVec 16).extractLsb' 8 8 = a := by
  apply BitVec.eq_of_getLsbD_eq
  intro j hj
  rw [BitVec.getLsbD_extractLsb', BitVec.getLsbD_append]
  simp [hj]

theorem extract_high_append_low (x : BitVec 16) :
    (x.extractLsb' 8 8 ++ x.extractLsb' 0 8 : BitVec 16) = x := by
  apply BitVec.eq_of_getLsbD_eq
  intro j hj
  rw [BitVec.getLsbD_append]
  interval_cases j <;> simp

/-- Eight bytes with the header are rebuilt from their fields (R70, R72). -/
theorem frameOfFields_of_headerMatch {w : Frame} (h : headerMatch w = true) :
    frameOfFields (frameDev w) (frameMant w) (frameExp w) (frameCk w) = w := by
  simp only [headerMatch, Bool.and_eq_true, beq_iff_eq] at h
  apply frame_ext <;>
    simp [frameOfFields, frameDev, frameMant, frameExp, frameCk, append_extract_low,
      append_extract_high, h]

@[simp] theorem headerMatch_frameOfFields (dev mant : BitVec 16) (exp ck : Byte) :
    headerMatch (frameOfFields dev mant exp ck) = true := by
  simp [headerMatch, frameOfFields]

theorem frameValid_eq_true {w : Frame} :
    frameValid w = true ↔ headerMatch w = true ∧ checksum w = w[7] := by
  simp [frameValid]

theorem checksum_toNat (w : Frame) : (checksum w).toNat = byteSum w % 256 := by
  simp [checksum, Config.ckMod]

end Sys2Proof.Machine
end

