-- ==== Sys2Proof/Laws/State.lean ====
section
/-! SUPPORT. One lemma per field per register update, true by `rfl`, so that no proof unfolds a record
update (Machine/Ops.lean). -/

namespace Sys2Proof.Machine

@[simp] theorem present_cnt (v : Civ) (s : State) : (present v s).cnt = s.cnt := rfl
@[simp] theorem present_win (v : Civ) (s : State) : (present v s).win = s.win := rfl
@[simp] theorem present_ov (v : Civ) (s : State) : (present v s).ov = s.ov := rfl
@[simp] theorem present_fr (v : Civ) (s : State) : (present v s).fr = s.fr := rfl
@[simp] theorem present_civ (v : Civ) (s : State) : (present v s).civ = v := rfl
@[simp] theorem present_inputs (v : Civ) (s : State) : (present v s).inputs = s.inputs := rfl
@[simp] theorem present_draws (v : Civ) (s : State) : (present v s).draws = s.draws := rfl

@[simp] theorem resetBlock_cnt (s : State) : (resetBlock s).cnt = State.reset.cnt := rfl
@[simp] theorem resetBlock_win (s : State) : (resetBlock s).win = State.reset.win := rfl
@[simp] theorem resetBlock_ov (s : State) : (resetBlock s).ov = State.reset.ov := rfl
@[simp] theorem resetBlock_fr (s : State) : (resetBlock s).fr = State.reset.fr := rfl
@[simp] theorem resetBlock_civ (s : State) : (resetBlock s).civ = s.civ := rfl
@[simp] theorem resetBlock_inputs (s : State) : (resetBlock s).inputs = s.inputs := rfl
@[simp] theorem resetBlock_draws (s : State) : (resetBlock s).draws = s.draws := rfl

@[simp] theorem accum_cnt (b : Byte) (s : State) : (accum b s).cnt = s.cnt + 1#3 := rfl
@[simp] theorem accum_win (b : Byte) (s : State) : (accum b s).win = s.win.setIfInBounds s.cnt.toNat b := rfl
@[simp] theorem accum_ov (b : Byte) (s : State) : (accum b s).ov = s.ov := rfl
@[simp] theorem accum_fr (b : Byte) (s : State) : (accum b s).fr = s.fr := rfl
@[simp] theorem accum_civ (b : Byte) (s : State) : (accum b s).civ = s.civ := rfl
@[simp] theorem accum_inputs (b : Byte) (s : State) : (accum b s).inputs = s.inputs := rfl
@[simp] theorem accum_draws (b : Byte) (s : State) : (accum b s).draws = s.draws := rfl

@[simp] theorem hitWith_cnt (w : Frame) (s : State) : (hitWith w s).cnt = 0#3 := rfl
@[simp] theorem hitWith_win (w : Frame) (s : State) : (hitWith w s).win = s.win := rfl
@[simp] theorem hitWith_ov (w : Frame) (s : State) : (hitWith w s).ov = true := rfl
@[simp] theorem hitWith_fr (w : Frame) (s : State) : (hitWith w s).fr = w := rfl
@[simp] theorem hitWith_civ (w : Frame) (s : State) : (hitWith w s).civ = s.civ := rfl
@[simp] theorem hitWith_inputs (w : Frame) (s : State) : (hitWith w s).inputs = s.inputs := rfl
@[simp] theorem hitWith_draws (w : Frame) (s : State) : (hitWith w s).draws = s.draws := rfl

@[simp] theorem miss_cnt (b : Byte) (s : State) : (miss b s).cnt = 7#3 := rfl
@[simp] theorem miss_win (b : Byte) (s : State) : (miss b s).win = slide s.win b := rfl
@[simp] theorem miss_ov (b : Byte) (s : State) : (miss b s).ov = s.ov := rfl
@[simp] theorem miss_fr (b : Byte) (s : State) : (miss b s).fr = s.fr := rfl
@[simp] theorem miss_civ (b : Byte) (s : State) : (miss b s).civ = s.civ := rfl
@[simp] theorem miss_inputs (b : Byte) (s : State) : (miss b s).inputs = s.inputs := rfl
@[simp] theorem miss_draws (b : Byte) (s : State) : (miss b s).draws = s.draws := rfl

@[simp] theorem deliver_cnt (h : Bool) (s : State) : (deliver h s).cnt = s.cnt := rfl
@[simp] theorem deliver_win (h : Bool) (s : State) : (deliver h s).win = s.win := rfl
@[simp] theorem deliver_ov (h : Bool) (s : State) : (deliver h s).ov = h := rfl
@[simp] theorem deliver_fr (h : Bool) (s : State) : (deliver h s).fr = s.fr := rfl
@[simp] theorem deliver_civ (h : Bool) (s : State) : (deliver h s).civ = s.civ := rfl
@[simp] theorem deliver_inputs (h : Bool) (s : State) : (deliver h s).inputs = s.inputs := rfl
@[simp] theorem deliver_draws (h : Bool) (s : State) : (deliver h s).draws = s.draws := rfl

@[simp] theorem queueInput_cnt (i : Input) (s : State) : (queueInput i s).cnt = s.cnt := rfl
@[simp] theorem queueInput_win (i : Input) (s : State) : (queueInput i s).win = s.win := rfl
@[simp] theorem queueInput_ov (i : Input) (s : State) : (queueInput i s).ov = s.ov := rfl
@[simp] theorem queueInput_fr (i : Input) (s : State) : (queueInput i s).fr = s.fr := rfl
@[simp] theorem queueInput_civ (i : Input) (s : State) : (queueInput i s).civ = s.civ := rfl
@[simp] theorem queueInput_inputs (i : Input) (s : State) : (queueInput i s).inputs = i :: s.inputs := rfl
@[simp] theorem queueInput_draws (i : Input) (s : State) : (queueInput i s).draws = s.draws := rfl

@[simp] theorem reset_cnt : State.reset.cnt = 0#3 := rfl
@[simp] theorem reset_ov : State.reset.ov = false := rfl
@[simp] theorem reset_civ : State.reset.civ = 0x400#11 := rfl
@[simp] theorem reset_inputs : State.reset.inputs = [] := rfl
@[simp] theorem reset_draws : State.reset.draws = 0 := rfl

end Sys2Proof.Machine
end

