-- ==== Sys2Proof/Laws/Ops.lean ====
section
/-! SUPPORT. What each shared operation can do, said once: the window operations in terms of the pending
bytes, the input side's three cases, and the signals of a presented vector. -/

namespace Sys2Proof.Machine

/-! ### Fields of an input vector -/

@[simp] theorem civRst_mkCiv (r v o : Bool) (d : Byte) : civRst (mkCiv r v o d) = r := by
  simp only [civRst, mkCiv]
  rw [BitVec.getLsbD_append, if_neg (by decide)]
  cases r <;> cases v <;> cases o <;> decide

@[simp] theorem civInValid_mkCiv (r v o : Bool) (d : Byte) : civInValid (mkCiv r v o d) = v := by
  simp only [civInValid, mkCiv]
  rw [BitVec.getLsbD_append, if_neg (by decide)]
  cases r <;> cases v <;> cases o <;> decide

@[simp] theorem civOutReady_mkCiv (r v o : Bool) (d : Byte) : civOutReady (mkCiv r v o d) = o := by
  simp only [civOutReady, mkCiv]
  rw [BitVec.getLsbD_append, if_neg (by decide)]
  cases r <;> cases v <;> cases o <;> decide

@[simp] theorem civInData_mkCiv (r v o : Bool) (d : Byte) : civInData (mkCiv r v o d) = d := by
  simp only [civInData, mkCiv]
  apply BitVec.eq_of_getLsbD_eq
  intro k hk
  rw [BitVec.getLsbD_extractLsb', Nat.zero_add, BitVec.getLsbD_append]
  simp [hk]

@[simp] theorem selRst_mkSel (r v o q f k : Bool) : selRst (mkSel r v o q f k) = r := by
  revert r v o q f k; decide

@[simp] theorem selInValid_mkSel (r v o q f k : Bool) : selInValid (mkSel r v o q f k) = v := by
  revert r v o q f k; decide

@[simp] theorem selOutReady_mkSel (r v o q f k : Bool) : selOutReady (mkSel r v o q f k) = o := by
  revert r v o q f k; decide

@[simp] theorem selOv_mkSel (r v o q f k : Bool) : selOv (mkSel r v o q f k) = q := by
  revert r v o q f k; decide

@[simp] theorem selFull_mkSel (r v o q f k : Bool) : selFull (mkSel r v o q f k) = f := by
  revert r v o q f k; decide

@[simp] theorem selFv_mkSel (r v o q f k : Bool) : selFv (mkSel r v o q f k) = k := by
  revert r v o q f k; decide

/-! ### The command a vector selects, by its three control bits (R76) -/

theorem decodeCiv_rst {v : Civ} (h : civRst v = true) : decodeCiv v = .rst := by
  simp [decodeCiv, h]

theorem decodeCiv_nop {v : Civ} (h : civRst v = false) (hv : civInValid v = false)
    (ho : civOutReady v = false) : decodeCiv v = .nop := by
  simp [decodeCiv, h, hv, ho]

theorem decodeCiv_pop {v : Civ} (h : civRst v = false) (hv : civInValid v = false)
    (ho : civOutReady v = true) : decodeCiv v = .pop := by
  simp [decodeCiv, h, hv, ho]

theorem decodeCiv_push {v : Civ} (h : civRst v = false) (hv : civInValid v = true)
    (ho : civOutReady v = false) : decodeCiv v = .push (civInData v) := by
  simp [decodeCiv, h, hv, ho]

theorem decodeCiv_pushpop {v : Civ} (h : civRst v = false) (hv : civInValid v = true)
    (ho : civOutReady v = true) : decodeCiv v = .pushpop (civInData v) := by
  simp [decodeCiv, h, hv, ho]

/-! ### The pending window -/

theorem cnt_toNat_le (s : State) : s.cnt.toNat ≤ 7 := by
  have := s.cnt.isLt
  omega

theorem cnt_toNat_lt_iff (s : State) : s.cnt.toNat < 7 ↔ s.cnt ≠ 7#3 := by
  constructor
  · rintro h rfl'
    simp [rfl'] at h
  · intro h
    have hle := cnt_toNat_le s
    rcases Nat.lt_or_eq_of_le hle with hlt | heq
    · exact hlt
    · exact absurd (BitVec.eq_of_toNat_eq (by simpa using heq)) h

theorem pending_length (s : State) : (pending s).length = s.cnt.toNat := by
  have := cnt_toNat_le s
  simp [pending, this]

theorem pending_of_cnt_eq_zero {s : State} (h : s.cnt = 0#3) : pending s = [] := by
  simp [pending, h]

/-- The eight-byte window of a full state is its pending bytes and the new one (R104). -/
theorem window8_toList_of_full {s : State} (h : s.cnt = 7#3) (b : Byte) :
    (window8 s.win b).toList = pending s ++ [b] := by
  have e : s.win.toList = [s.win[0], s.win[1], s.win[2], s.win[3], s.win[4], s.win[5], s.win[6]] := by
    apply List.ext_getElem (by simp)
    intro k hk _
    simp only [Vector.length_toList] at hk
    interval_cases k <;> simp
  have t : pending s = s.win.toList := by
    simp [pending, h]
  rw [t, e]
  rfl

theorem pending_slide (b : Byte) (s : State) (h : s.cnt = 7#3) :
    pending (miss b s) = (pending s ++ [b]).tail := by
  rw [← window8_toList_of_full h]
  rfl

theorem pending_accum (b : Byte) (s : State) (h : s.cnt ≠ 7#3) :
    pending (accum b s) = pending s ++ [b] := by
  have hlt := (cnt_toNat_lt_iff s).mpr h
  have hc : (s.cnt + 1#3).toNat = s.cnt.toNat + 1 := by
    rw [BitVec.toNat_add, BitVec.toNat_ofNat]
    omega
  apply List.ext_getElem
  · simp [pending, hc]
    omega
  · intro k h1 h2
    simp only [pending, accum, hc, List.length_take, Vector.length_toList] at h1
    simp only [pending, accum, hc, List.getElem_take, Vector.getElem_toList,
      Vector.getElem_setIfInBounds, List.getElem_append, List.length_take, Vector.length_toList]
    by_cases hk : s.cnt.toNat = k
    · subst hk
      simp
    · have : k < s.cnt.toNat := by omega
      simp [hk, this]
      omega

/-! ### The input side's three cases (R109) -/

theorem consume_of_not_full {s : State} (b : Byte) (h : s.cnt ≠ 7#3) :
    consume b s = accum b s := by
  simp [consume, h]

theorem consume_of_hit {s : State} (b : Byte) (h : s.cnt = 7#3)
    (hv : frameValid (window8 s.win b) = true) : consume b s = hitWith (window8 s.win b) s := by
  simp [consume, h, hv]

theorem consume_of_miss {s : State} (b : Byte) (h : s.cnt = 7#3)
    (hv : frameValid (window8 s.win b) = false) : consume b s = miss b s := by
  simp [consume, h, hv]

/-- All that consuming a byte can do (R113, R115, R116). -/
theorem consume_cases (b : Byte) (s : State) :
    (s.cnt ≠ 7#3 ∧ consume b s = accum b s) ∨
    (s.cnt = 7#3 ∧ frameValid (window8 s.win b) = true ∧
      consume b s = hitWith (window8 s.win b) s) ∨
    (s.cnt = 7#3 ∧ frameValid (window8 s.win b) = false ∧ consume b s = miss b s) := by
  by_cases h : s.cnt = 7#3
  · cases hv : frameValid (window8 s.win b)
    · exact .inr (.inr ⟨h, rfl, consume_of_miss b h hv⟩)
    · exact .inr (.inl ⟨h, rfl, consume_of_hit b h hv⟩)
  · exact .inl ⟨h, consume_of_not_full b h⟩

@[simp] theorem consume_civ (b : Byte) (s : State) : (consume b s).civ = s.civ := by
  rcases consume_cases b s with ⟨_, e⟩ | ⟨_, _, e⟩ | ⟨_, _, e⟩ <;> simp [e]

@[simp] theorem consume_inputs (b : Byte) (s : State) : (consume b s).inputs = s.inputs := by
  rcases consume_cases b s with ⟨_, e⟩ | ⟨_, _, e⟩ | ⟨_, _, e⟩ <;> simp [e]

@[simp] theorem consume_draws (b : Byte) (s : State) : (consume b s).draws = s.draws := by
  rcases consume_cases b s with ⟨_, e⟩ | ⟨_, _, e⟩ | ⟨_, _, e⟩ <;> simp [e]

/-! ### Feeding bytes (R79) -/

@[simp] theorem feed_nil (s : State) : feed [] s = s := rfl

@[simp] theorem feed_cons (b : Byte) (bs : List Byte) (s : State) :
    feed (b :: bs) s = feed bs (feedByte s b) := rfl

theorem feed_append (as bs : List Byte) (s : State) :
    feed (as ++ bs) s = feed bs (feed as s) := by
  simp [feed]

/-! ### The environment's next move (R27) -/

theorem nextInput_cons {s : State} {i : Input} {rest : List Input} (h : s.inputs = i :: rest) :
    nextInput s = (i, { s with inputs := rest }) := by
  simp [nextInput, h]

theorem nextInput_nil {s : State} (h : s.inputs = []) :
    nextInput s = (.vector (Config.envInput s.draws), { s with draws := s.draws + 1 }) := by
  simp [nextInput, h]

/-! ### Selection (R77) -/

theorem whenSelected_of_selects {i : Instr} {f : State → State} {s : State}
    (h : selects (selVector s) i = true) : whenSelected i f s = f s := by
  simp [whenSelected, h]

theorem whenSelected_of_not_selects {i : Instr} {f : State → State} {s : State}
    (h : selects (selVector s) i = false) : whenSelected i f s = s := by
  simp [whenSelected, h]

end Sys2Proof.Machine
end

