-- ==== Sys2Proof/Laws/PerInstr.lean ====
section
/-! SUPPORT. A statement about every instruction's encoding, one lemma per constructor: the canonical
word has its row's width and satisfies its row's match and mask (30_encoding R71, R76, R77). -/

namespace Sys2Proof.Laws.RowMatch

/-- The canonical word of `i` is one the row of spec/opcode_table.json that `i` stands for applies to. -/
def Statement (i : Instr) : Prop :=
  (encode i).width = (rowOf i).nbits ∧ (rowOf i).applies (encode i).value = true

theorem rst : Statement .rst := ⟨rfl, by decide⟩

theorem nop : Statement .nop := ⟨rfl, by decide⟩

theorem pop : Statement .pop := ⟨rfl, by decide⟩

theorem push (b : Byte) : Statement (.push b) := by
  revert b; unfold Statement; decide

theorem pushpop (b : Byte) : Statement (.pushpop b) := by
  revert b; unfold Statement; decide

/-- The header's match and mask on eight bytes that start with the header (R71). -/
theorem packFrame_and_headerMask (dev mant : BitVec 16) (exp ck : Byte) :
    Machine.packFrame (Machine.frameOfFields dev mant exp ck) &&& 0xFFFF000000000000#64 =
      0x0994000000000000#64 := by
  apply BitVec.eq_of_getLsbD_eq
  intro k hk
  simp only [Machine.packFrame, Machine.frameOfFields, BitVec.getLsbD_and, BitVec.getLsbD_append]
  by_cases h : k < 48
  · have m : (0xFFFF000000000000#64).getLsbD k = false := by
      revert h; revert k; decide
    have p : (0x0994000000000000#64).getLsbD k = false := by
      revert h; revert k; decide
    rw [m, p, Bool.and_false]
  · interval_cases k <;> first | omega | simp [Config.hdr0, Config.hdr1]

theorem frame (dev mant : BitVec 16) (exp ck : Byte) : Statement (.frame dev mant exp ck) := by
  refine ⟨rfl, ?_⟩
  have h := congrArg BitVec.toNat (packFrame_and_headerMask dev mant exp ck)
  rw [BitVec.toNat_and] at h
  simp only [Row.applies, rowOf, encode, Code.value, beq_iff_eq]
  exact h

theorem stall : Statement .stall := ⟨rfl, by decide⟩

theorem accumReady : Statement .accumReady := ⟨rfl, by decide⟩

theorem accumEmpty : Statement .accumEmpty := ⟨rfl, by decide⟩

theorem hitReady : Statement .hitReady := ⟨rfl, by decide⟩

theorem hitEmpty : Statement .hitEmpty := ⟨rfl, by decide⟩

theorem missReady : Statement .missReady := ⟨rfl, by decide⟩

theorem missEmpty : Statement .missEmpty := ⟨rfl, by decide⟩

theorem deliver : Statement .deliver := ⟨rfl, by decide⟩

end Sys2Proof.Laws.RowMatch
end

