-- ==== Sys2Proof/Laws/Stream.lean ====
section
/-! SUPPORT. The equations of the stream-level functions (Machine/Stream.lean). -/

namespace Sys2Proof.Machine

/-- An edge, given what the command answers. -/
theorem edge_of_exec {v : Civ} {s t : State} (o : Observer)
    (h : exec (decodeCiv v) (present v s) = .next t) :
    edge v (s, o) = (t, observe (present v s) o) := by
  simp [edge, h]

@[simp] theorem runEdges_nil (p : State × Observer) : runEdges [] p = p := rfl

@[simp] theorem runEdges_cons (v : Civ) (vs : List Civ) (p : State × Observer) :
    runEdges (v :: vs) p = runEdges vs (edge v p) := rfl

theorem runEdges_append (us vs : List Civ) (p : State × Observer) :
    runEdges (us ++ vs) p = runEdges vs (runEdges us p) := by
  simp [runEdges]

theorem firstEight_eq_none {S : List Byte} : firstEight S = none ↔ S.length < 8 := by
  rcases S with _ | ⟨_, _ | ⟨_, _ | ⟨_, _ | ⟨_, _ | ⟨_, _ | ⟨_, _ | ⟨_, _ | ⟨_, _⟩⟩⟩⟩⟩⟩⟩⟩ <;>
    simp [firstEight]

theorem firstEight_append {S : List Byte} {w : Frame} (h : firstEight S = some w)
    (T : List Byte) : firstEight (S ++ T) = some w := by
  rcases S with _ | ⟨_, _ | ⟨_, _ | ⟨_, _ | ⟨_, _ | ⟨_, _ | ⟨_, _ | ⟨_, _ | ⟨_, _⟩⟩⟩⟩⟩⟩⟩⟩ <;>
    simp [firstEight] at h ⊢
  exact h

theorem firstEight_toList (w : Frame) : firstEight w.toList = some w := by
  rw [frame_toList]
  exact congrArg some (frame_eq_literal w).symm

theorem scan_skip (k i : Nat) (b : Byte) (S : List Byte) :
    scan (k + 1) i (b :: S) = scan k (i + 1) S := rfl

theorem scan_stop (i : Nat) {b : Byte} {S : List Byte} (h : firstEight (b :: S) = none) :
    scan 0 i (b :: S) = ([], b :: S) := by
  simp [scan, h]

theorem scan_emit (i : Nat) {b : Byte} {S : List Byte} {w : Frame}
    (h : firstEight (b :: S) = some w) (hv : frameValid w = true) :
    scan 0 i (b :: S) = ((i, w) :: (scan 7 (i + 1) S).1, (scan 7 (i + 1) S).2) := by
  simp [scan, h, hv]

theorem scan_discard (i : Nat) {b : Byte} {S : List Byte} {w : Frame}
    (h : firstEight (b :: S) = some w) (hv : frameValid w = false) :
    scan 0 i (b :: S) = scan 0 (i + 1) S := by
  simp [scan, h, hv]

end Sys2Proof.Machine
end

