-- ==== Sys2Proof/Tests/Slice0.lean ====
section
/-! SUPPORT. Small tests, expected results from 95_test_vectors.md (named at each test), and a witness for
the hypotheses of every statement that has some. -/

namespace Sys2Proof.Tests

open Sys2Proof.Machine

/-! ### Decoding: words written out from the encodings of R76, R77 and R70 -/

theorem test_decode_rst : decodeTableWord 16 0b10000000000 = some .rst := by decide
theorem test_decode_rst_ignores_the_rest : decodeTableWord 16 0x7FF = some .rst := by decide
theorem test_decode_nop : decodeTableWord 16 0b00000000000 = some .nop := by decide
theorem test_decode_pop : decodeTableWord 16 0b00100000000 = some .pop := by decide
theorem test_decode_push : decodeTableWord 16 0b01000001001 = some (.push 0x09#8) := by decide
theorem test_decode_pushpop : decodeTableWord 16 0b01111011110 = some (.pushpop 0xDE#8) := by decide
theorem test_decode_frame :
    decodeTableWord 64 0x099412341234032C = some (.frame 0x1234#16 0x1234#16 0x03#8 0x2C#8) := by
  decide
theorem test_decode_stall : decodeTableWord 8 0b010100 = some .stall := by decide
theorem test_decode_accumReady : decodeTableWord 8 0b011000 = some .accumReady := by decide
theorem test_decode_accumEmpty : decodeTableWord 8 0b010000 = some .accumEmpty := by decide
theorem test_decode_hitReady : decodeTableWord 8 0b011011 = some .hitReady := by decide
theorem test_decode_hitEmpty : decodeTableWord 8 0b010011 = some .hitEmpty := by decide
theorem test_decode_missReady : decodeTableWord 8 0b011010 = some .missReady := by decide
theorem test_decode_missEmpty : decodeTableWord 8 0b010010 = some .missEmpty := by decide
theorem test_decode_deliver : decodeTableWord 8 0b001100 = some .deliver := by decide

/-- L2-C C3: the header bytes swapped. -/
theorem test_decode_refuses_swapped_header :
    decode (.frame64 0x94090000400001DE#64) = .error .notAFrame := by decide

/-- L2-C C2: the checksum off by one. -/
theorem test_decode_refuses_checksum :
    decode (.frame64 0x09940000400001DF#64) = .error .notAFrame := by decide

theorem test_decode_refuses_reset_selector : decode (.sel6 0b100000#6) = .error .noMicroOp := by
  decide
theorem test_decode_refuses_idle_selector : decode (.sel6 0b000100#6) = .error .noMicroOp := by
  decide
theorem test_decode_refuses_high_bits : decodeTableWord 16 0x800 = none := by decide

/-- The one check of WellFormed refuses a wrong checksum byte. -/
theorem test_wellFormed_refuses_checksum :
    Instr.wellFormed (.frame 0x0000#16 0x4000#16 0x01#8 0xDF#8) = false := by decide
theorem test_wellFormed_frame :
    Instr.wellFormed (.frame 0x0000#16 0x4000#16 0x01#8 0xDE#8) = true := by decide

/-! ### Validation: L2-C -/

theorem test_checksum_C6 :
    frameValid #v[0x09#8, 0x94#8, 0xFF#8, 0xFF#8, 0xFF#8, 0xFF#8, 0xFF#8, 0x98#8] = true := by decide
theorem test_checksum_C7 :
    frameValid #v[0x09#8, 0x94#8, 0x63#8, 0x00#8, 0x00#8, 0x00#8, 0x00#8, 0x00#8] = true := by decide
theorem test_checksum_C4 :
    frameValid #v[0x0A#8, 0x94#8, 0x00#8, 0x00#8, 0x40#8, 0x00#8, 0x01#8, 0xDF#8] = false := by decide

/-! ### One cycle: L2-S -/

/-- The window `W7 = 09 94 00 00 40 00 01` of L2-S. -/
def w7 : Window := #v[0x09#8, 0x94#8, 0x00#8, 0x00#8, 0x40#8, 0x00#8, 0x01#8]

/-- The frame of L1-1. -/
def frameL11 : Frame := #v[0x09#8, 0x94#8, 0x00#8, 0x00#8, 0x40#8, 0x00#8, 0x01#8, 0xDE#8]

/-- A state with the window `W7`, so many bytes of it pending, `ov` as given, the frame of L1-1 in `fr`,
and a vector on the ports. -/
def st (cnt : BitVec 3) (ov : Bool) (civ : Civ) : State :=
  { State.reset with cnt := cnt, win := w7, ov := ov, fr := frameL11, civ := civ }

/-- One field of the next state, or nothing. -/
def after (f : State → α) (r : Host.Outcome State Fault Refusal) : Option α :=
  match r with
  | .next t => some (f t)
  | .fault _ => none
  | .refused _ => none

theorem test_rst_S10 :
    after (fun t => (t.cnt, t.ov, outFrame t)) (exec .rst (st 5#3 true 0x400#11)) =
      some (0#3, false, 0#64) := by decide
theorem test_nop_S11 : exec .nop (st 4#3 false 0x000#11) = .next (st 4#3 false 0x000#11) := rfl
theorem test_pop_S6 :
    after (fun t => (t.cnt, t.ov, t.fr)) (exec .pop (st 0#3 true 0x100#11)) =
      some (0#3, false, frameL11) := by decide
theorem test_push_S1 :
    after (fun t => (t.cnt, pending t, t.ov)) (exec (.push 0x09#8) (st 0#3 false 0x209#11)) =
      some (1#3, [0x09#8], false) := by decide
theorem test_push_S3_hit :
    after (fun t => (t.cnt, t.ov, t.fr)) (exec (.push 0xDE#8) (st 7#3 false 0x2DE#11)) =
      some (0#3, true, frameL11) := by decide
theorem test_pushpop_S8_deliver_and_hit :
    after (fun t => (t.cnt, t.ov, t.fr)) (exec (.pushpop 0xDE#8) (st 7#3 true 0x3DE#11)) =
      some (0#3, true, frameL11) := by decide
theorem test_pushpop_S9_overlap :
    after (fun t => (t.cnt, t.ov, outFrame t))
      (exec (.pushpop 0x3A#8)
        { st 7#3 false 0x33A#11 with
          win := #v[0x09#8, 0x94#8, 0x09#8, 0x94#8, 0x00#8, 0x00#8, 0x00#8] }) =
      some (0#3, true, 0x099409940000003A#64) := by decide

/-- R79 with L1-1: FRAME on an empty window. -/
theorem test_frame_on_empty_window :
    after (fun t => (t.cnt, t.ov, outFrame t))
      (exec (.frame 0x0000#16 0x4000#16 0x01#8 0xDE#8) (st 0#3 true 0x000#11)) =
      some (0#3, true, 0x09940000400001DE#64) := by decide

theorem test_stall_S5 : exec .stall (st 0#3 true 0x2AA#11) = .next (st 0#3 true 0x2AA#11) := rfl
theorem test_accumReady_example :
    after (fun t => (t.cnt, pending t)) (exec .accumReady (st 2#3 false 0x300#11)) =
      some (3#3, [0x09#8, 0x94#8, 0x00#8]) := by decide
theorem test_accumEmpty_S2 :
    after (fun t => (t.cnt, t.win)) (exec .accumEmpty (st 6#3 false 0x201#11)) =
      some (7#3, w7) := by decide
theorem test_hitReady_S8 :
    after (fun t => (t.cnt, t.ov, t.fr)) (exec .hitReady (st 7#3 true 0x3DE#11)) =
      some (0#3, true, frameL11) := by decide
theorem test_hitEmpty_S3 :
    after (fun t => (t.cnt, t.ov, t.fr)) (exec .hitEmpty (st 7#3 false 0x2DE#11)) =
      some (0#3, true, frameL11) := by decide
theorem test_missReady_example :
    after (fun t => (t.cnt, pending t)) (exec .missReady (st 7#3 false 0x3DF#11)) =
      some (7#3, [0x94#8, 0x00#8, 0x00#8, 0x40#8, 0x00#8, 0x01#8, 0xDF#8]) := by decide
theorem test_missEmpty_S12 :
    after (fun t => (t.cnt, pending t)) (exec .missEmpty (st 7#3 false 0x209#11)) =
      some (7#3, [0x94#8, 0x00#8, 0x00#8, 0x40#8, 0x00#8, 0x01#8, 0x09#8]) := by decide
theorem test_deliver_S6 :
    after (fun t => (t.ov, t.fr)) (exec .deliver (st 0#3 true 0x100#11)) =
      some (false, frameL11) := by decide
theorem test_deliver_with_hit :
    after (fun t => t.ov) (exec .deliver (st 7#3 true 0x3DE#11)) = some true := by decide

/-! ### One step on a placed word -/

theorem test_step_runs_placed_push :
    after (fun t => (t.cnt, pending t)) (step (State.reset.withFetchWord 16 0x209)) =
      some (1#3, [0x09#8]) := by decide
theorem test_step_runs_placed_frame :
    after (fun t => (t.ov, outFrame t)) (step (State.reset.withFetchWord 64 0x09940000400001DE)) =
      some (true, 0x09940000400001DE#64) := by decide
theorem test_step_runs_placed_hit :
    after (fun t => (t.cnt, t.ov, outFrame t)) (step (State.reset.withFetchWord 8 0b010011)) =
      some (0#3, true, 0x099400000000009D#64) := by decide
theorem test_step_runs_placed_deliver :
    after (fun t => t.ov) (step (State.reset.withFetchWord 8 0b001100)) = some false := by decide

/-- The cycle a placed selector makes has that selector, for every row's word. -/
theorem test_placed_selector_is_selected :
    ∀ sv ∈ [0b010100#6, 0b011000#6, 0b010000#6, 0b011011#6, 0b010011#6, 0b011010#6, 0b010010#6,
        0b001100#6],
      (match nextInput (State.reset.withFetchWord 8 sv.toNat) with
        | (.vector v, t) => selVector (present v t)
        | (.frame _, _) => 0#6) = sv := by decide

/-! ### The decoder: L2-D -/

/-- `fr` with the three bytes L2-D gives. -/
def dec (b4 b5 b6 : Byte) : Frame := #v[0x09#8, 0x94#8, 0x00#8, 0x00#8, b4, b5, b6, 0x00#8]

theorem test_decoder_D6 :
    readingOf (dec 0xFF#8 0xFF#8 0xFF#8) =
      { decDev := 0x0000#16, decMant := 0xFFFF#16, decExp := 0xFF#8, curExp := 0x0F0#9,
        powMant := 0xEFFF10#24, curF64 := 0x4FEFFFE000000000#64,
        powF64 := 0x506DFFE200000000#64 } := by decide
theorem test_decoder_D4 :
    readingOf (dec 0x00#8 0x01#8 0x00#8) =
      { decDev := 0x0000#16, decMant := 0x0001#16, decExp := 0x00#8, curExp := 0x1F1#9,
        powMant := 0x0000F0#24, curF64 := 0x3F00000000000000#64,
        powF64 := 0x3F7E000000000000#64 } := by decide
theorem test_decoder_D9 :
    readingOf (dec 0x12#8 0x34#8 0x03#8) =
      { decDev := 0x0000#16, decMant := 0x1234#16, decExp := 0x03#8, curExp := 0x1F4#9,
        powMant := 0x1110C0#24, curF64 := 0x3FF2340000000000#64,
        powF64 := 0x407110C000000000#64 } := by decide
theorem test_current_D9 : current (dec 0x12#8 0x34#8 0x03#8) = 4660 / 4096 := by
  have m : decMant (dec 0x12#8 0x34#8 0x03#8) = 0x1234#16 := by decide
  have e : decExp (dec 0x12#8 0x34#8 0x03#8) = 0x03#8 := by decide
  rw [current, m, e]
  norm_num [Config.mantScale]

/-! ### The trace: L2-G -/

/-- The four diagnostic ports with DIAG = 1. -/
def trace (s : State) : Bool × Byte × Bool × Byte :=
  (dbgByteValid true s, dbgByte true s, dbgEvalValid true s, dbgSum true s)

theorem test_trace_G1 : trace (st 3#3 false 0x2FF#11) = (true, 0xFF#8, false, 0x00#8) := by decide
theorem test_trace_G3 : trace (st 7#3 false 0x2DF#11) = (true, 0xDF#8, true, 0xDE#8) := by decide
theorem test_trace_G4 : trace (st 0#3 true 0x2AA#11) = (false, 0x00#8, false, 0x00#8) := by decide
theorem test_trace_G5 : trace (st 7#3 false 0x6DE#11) = (false, 0x00#8, false, 0x00#8) := by decide

/-- R8 and R180: a block built without a value for DIAG has DIAG = 0, and its trace is constant 0. -/
theorem test_diag_default :
    Config.diagOf none = false ∧
    (outputsOf (Config.diagOf none) (st 7#3 false 0x2DF#11)).diagnostics =
      { dbgByteValid := false, dbgByte := 0x00#8, dbgEvalValid := false, dbgSum := 0x00#8 } := by
  decide
theorem test_diag_given : Config.diagOf (some true) = true ∧ Config.diagOf (some false) = false := by
  decide

/-! ### The stimulus notation: R78, R79 -/

theorem test_stimulus_lines :
    expandLines [.rst, .nop, .pop, .push 0x09#8, .pushpop 0xDE#8, .wait 2, .hfeed [0xAA#8]] =
      [0x400#11, 0x000#11, 0x100#11, 0x209#11, 0x3DE#11, 0x000#11, 0x000#11, 0x2AA#11] := by decide
theorem test_stimulus_frame :
    (StimulusLine.frame 0x00#8 0x00#8 0x40#8 0x00#8 0x01#8).expand =
      [0x309#11, 0x394#11, 0x300#11, 0x300#11, 0x340#11, 0x300#11, 0x301#11, 0x3DE#11] := by decide
theorem test_stimulus_badframe :
    (StimulusLine.badframe 0x00#8 0x00#8 0x40#8 0x00#8 0x01#8).expand.getLast? =
      some 0x3DF#11 := by decide

/-! ### The stream: R59, 90_conflicts C1 -/

/-- The stream of program P3. -/
def streamP3 : List Byte :=
  [0x09#8, 0x94#8, 0x09#8, 0x94#8, 0x00#8, 0x00#8, 0x00#8, 0x3A#8, 0x00#8, 0xD7#8]

theorem test_frames_of_P3 :
    framesOf streamP3 =
      [(0, #v[0x09#8, 0x94#8, 0x09#8, 0x94#8, 0x00#8, 0x00#8, 0x00#8, 0x3A#8])] ∧
    unclassified streamP3 = [0x00#8, 0xD7#8] := by decide
theorem test_source_frames_of_P3 :
    sourceFrames [] streamP3 =
      [#v[0x09#8, 0x94#8, 0x09#8, 0x94#8, 0x00#8, 0x00#8, 0x00#8, 0x3A#8]] := by decide

/-! ### Witnesses: the hypotheses of each statement are met together -/

theorem witness_DecodeEncodeRoundTrip : Instr.wellFormed (.frame 0#16 0x4000#16 1#8 0xDE#8) = true := by
  decide
theorem witness_DecodedFrame :
    decode (.frame64 0x09940000400001DE#64) = .ok (.frame 0#16 0x4000#16 1#8 0xDE#8) := by decide
theorem witness_FrameIsHeaderMatchAndChecksum :
    0x0994000000000000#64 &&& 0xFFFF000000000000#64 = 0x0994000000000000#64 := by decide
theorem witness_CycleVector :
    (0x7FF#11).getLsbD 10 = true ∧ (0x0FF#11).extractLsb' 8 3 = 0b000#3 ∧
    (0x100#11).extractLsb' 8 3 = 0b001#3 ∧ (0x200#11).extractLsb' 8 3 = 0b010#3 ∧
    (0x3FF#11).extractLsb' 8 3 = 0b011#3 ∧ (rowOf (.push 0#8)).nbits = 11 := by decide
theorem witness_SelectionVector :
    (0b111111#6).getLsbD 5 = true ∧ (0b011111#6).getLsbD 5 = false := by decide
theorem witness_ChecksumExactness :
    frameValid frameL11 = true ∧ (0x00#8 ≠ frameL11[0]) ∧ (0x00#8 ≠ frameL11[7]) := by decide
theorem witness_RstGivesResetValues :
    (0x400#11).getLsbD 10 = true ∧
      exec .rst (st 5#3 true 0x400#11) = .next (resetBlock (st 5#3 true 0x400#11)) :=
  ⟨by decide, rfl⟩
theorem witness_ResetStateAndItsPorts : (0x3FF#11).getLsbD 10 = false := by decide
theorem witness_NopKeepsEverything :
    (0x0AB#11).extractLsb' 8 3 = 0b000#3 ∧ (st 3#3 true 0x000#11).civ = 0x000#11 := by decide
theorem witness_PopDeliversTheHeldFrame : (0x1AB#11).extractLsb' 8 3 = 0b001#3 := by decide
theorem witness_PushResult :
    (st 0#3 true 0#11).ov = true ∧
    ((st 0#3 false 0#11).ov = false ∧ (st 0#3 false 0#11).cnt.toNat < 7) ∧
    (st 6#3 false 0#11).cnt.toNat < 7 ∧
    ((st 7#3 false 0#11).cnt = 7#3 ∧ frameValid (window8 (st 7#3 false 0#11).win 0xDE#8) = true ∧
      frameValid (window8 (st 7#3 false 0#11).win 0xDF#8) = false) := by decide
theorem witness_PushpopResult :
    (st 6#3 true 0#11).cnt.toNat < 7 ∧
    ((st 7#3 true 0#11).cnt = 7#3 ∧ frameValid (window8 (st 7#3 true 0#11).win 0xDE#8) = true ∧
      frameValid (window8 (st 7#3 true 0#11).win 0xDF#8) = false) := by decide
theorem witness_HitAndDeliverAtOneEdge :
    (st 7#3 true 0#11).ov = true ∧ (st 7#3 true 0#11).cnt = 7#3 ∧
    frameValid (window8 (st 7#3 true 0#11).win 0xDE#8) = true := by decide
theorem witness_FrameOnEmptyWindow :
    (st 0#3 true 0#11).cnt = 0#3 ∧ Instr.wellFormed (.frame 0#16 0x4000#16 1#8 0xDE#8) = true ∧
    Instr.wellFormed (.frame 0#16 0x4000#16 1#8 0xDF#8) = false := by decide
theorem witness_FrameIsEightPushpopEdges :
    (queueInput (.frame 0x09940000400001DF#64) State.reset).inputs =
      .frame 0x09940000400001DF#64 :: [] := by decide
theorem witness_AccumResult :
    (rowOf .accumReady).applies (selVector (st 6#3 true 0x300#11)).toNat = true ∧
    (rowOf .accumEmpty).applies (selVector (st 0#3 false 0x200#11)).toNat = true := by decide
theorem witness_HitResult :
    (rowOf .hitReady).applies (selVector (st 7#3 true 0x3DE#11)).toNat = true ∧
    (rowOf .hitEmpty).applies (selVector (st 7#3 false 0x2DE#11)).toNat = true := by decide
theorem witness_MissResult :
    (rowOf .missReady).applies (selVector (st 7#3 true 0x3DF#11)).toNat = true ∧
    (rowOf .missEmpty).applies (selVector (st 7#3 false 0x2DF#11)).toNat = true := by decide
theorem witness_StallResult :
    (rowOf .stall).applies (selVector (st 7#3 true 0x2DE#11)).toNat = true := by decide
theorem witness_DeliverResult :
    (rowOf .deliver).applies (selVector (st 7#3 true 0x3DE#11)).toNat = true ∧
    (rowOf .deliver).applies (selVector (st 0#3 true 0x100#11)).toNat = true ∧
    (0x100#11).getLsbD 10 = false := by decide
theorem witness_UnselectedMicroOp :
    (rowOf .hitEmpty).applies (selVector (st 7#3 false 0x2DF#11)).toNat = false := by decide
theorem witness_CommandIsItsMicroOps : (0x3DE#11).getLsbD 10 = false := by decide
theorem witness_HitNeverOverwrites : hit (st 7#3 true 0x3DE#11) = true := by decide
theorem witness_FrameRegisterChanges :
    exec (decodeCiv 0x3DE#11) (present 0x3DE#11 (st 7#3 true 0#11)) =
      .next (hitWith frameL11 (st 7#3 true 0x3DE#11)) ∧
    hit (present 0x3DE#11 (st 7#3 true 0#11)) = true ∧
    (outFire (present 0x2DE#11 (st 7#3 true 0#11)) = false ∧ (st 7#3 true 0#11).ov = true) := by
  refine ⟨?_, by decide, by decide, rfl⟩
  rw [decodeCiv_pushpop (by decide) (by decide) (by decide)]
  simp only [exec, execPushpop]
  rw [consume_of_hit _ (by decide) (by decide)]
  rfl
theorem witness_FrameRegisterChanges_at_reset :
    after State.fr (exec (decodeCiv 0x400#11) (present 0x400#11 (st 7#3 true 0#11))) ≠
      some (st 7#3 true 0#11).fr := by decide
theorem witness_StaleWindowBytes :
    AgreeButStale (st 3#3 true 0x2FF#11)
      { st 3#3 true 0x2FF#11 with
        win := #v[0x09#8, 0x94#8, 0x00#8, 0xFF#8, 0xFF#8, 0xFF#8, 0xFF#8] } :=
  ⟨rfl, by decide, rfl, rfl, rfl, rfl, rfl⟩
theorem witness_TraceShowsBytesAndEvaluations :
    dbgByteValid true (st 3#3 false 0x2FF#11) = true ∧
    dbgByteValid true (st 0#3 true 0x2AA#11) = false ∧
    dbgEvalValid true (st 7#3 false 0x2DF#11) = true ∧
    civRst (st 7#3 false 0x6DF#11).civ = true := by decide
theorem witness_CurrentValueAndRange : decMant (dec 0x00#8 0x01#8 0x00#8) ≠ 0#16 := by decide
theorem witness_BinaryEncodingIsExact :
    (1 < 2 ^ 53 ∧ f64BiasedExp 1 (-1022) = 1) ∧
    (2 ^ 53 - 1 < 2 ^ 53 ∧ f64BiasedExp (2 ^ 53 - 1) 971 = 2046) := by decide
theorem witness_BinaryPortsAreExact :
    decMant (dec 0xFF#8 0xFF#8 0xFF#8) ≠ 0#16 ∧ decMant (dec 0x00#8 0x00#8 0xFF#8) = 0#16 := by decide
theorem witness_DecoderReadsBytes :
    (dec 0x40#8 0x00#8 0x01#8)[4] = 0x40#8 ∧ (dec 0x80#8 0x00#8 0x00#8)[4] = 0x80#8 ∧
    (dec 0x01#8 0x00#8 0x07#8)[6] = 0x07#8 := by decide
theorem witness_StepRunsTheDecodedInstruction :
    ((queueInput (.vector 0x209#11) State.reset).inputs = .vector 0x209#11 :: [] ∧
      decode (.civ11 0x209#11) = .ok (.push 0x09#8)) ∧
    (State.reset.inputs = [] ∧
      decode (.civ11 (Config.envInput 0)) = .ok (decodeCiv (Config.envInput 0))) ∧
    ((queueInput (.frame 0x09940000400001DE#64) State.reset).inputs =
        .frame 0x09940000400001DE#64 :: [] ∧
      decode (.frame64 0x09940000400001DE#64) = .ok (.frame 0#16 0x4000#16 1#8 0xDE#8)) ∧
    decode (.frame64 0x09940000400001DF#64) = .error .notAFrame :=
  ⟨⟨rfl, by decide⟩, ⟨rfl, rfl⟩, ⟨rfl, by decide⟩, by decide⟩
theorem witness_StepKeepsFrameInv :
    FrameInv (queueInput (.vector 0x3DE#11) (st 7#3 true 0#11)) ∧
    after (fun t => t.ov) (step (queueInput (.vector 0x3DE#11) (st 7#3 true 0#11))) = some true :=
  ⟨⟨.inl (by decide), fun _ => by decide⟩, by decide⟩
theorem witness_StepKeepsStreamInv :
    nextInput (queueInput (.vector 0x209#11) State.reset) = (.vector 0x209#11, State.reset) ∧
    after (fun t => t.cnt) (step (queueInput (.vector 0x209#11) State.reset)) = some 1#3 ∧
    StreamInv (queueInput (.vector 0x209#11) State.reset, Observer.empty) :=
  ⟨rfl, by decide, rfl, rfl, rfl⟩
theorem witness_valid_window_in_a_run :
    (runEdges (streamP3.map pushpopVector) (State.reset, Observer.empty)).2.stream = streamP3 ∧
    firstEight (streamP3.drop 0) =
      some #v[0x09#8, 0x94#8, 0x09#8, 0x94#8, 0x00#8, 0x00#8, 0x00#8, 0x3A#8] ∧
    firstEight (streamP3.drop 2) =
      some #v[0x09#8, 0x94#8, 0x00#8, 0x00#8, 0x00#8, 0x3A#8, 0x00#8, 0xD7#8] ∧
    frameValid #v[0x09#8, 0x94#8, 0x00#8, 0x00#8, 0x00#8, 0x3A#8, 0x00#8, 0xD7#8] = true := by decide
theorem witness_ResynchronisesAfterNoise :
    frameValid frameL11 = true ∧ NoFrameBefore [0xFF#8].length ([0xFF#8] ++ frameL11.toList) := by
  refine ⟨by decide, ?_⟩
  intro i w hi h
  have : i = 0 := by simpa using hi
  subst this
  have e : firstEight ([0xFF#8] ++ frameL11.toList) =
      some #v[0xFF#8, 0x09#8, 0x94#8, 0x00#8, 0x00#8, 0x40#8, 0x00#8, 0x01#8] := by decide
  rw [List.drop_zero, e] at h
  cases h
  decide
theorem witness_NoValidWindowNoFrame :
    NoFrameBefore (runEdges [0x209#11] (State.reset, Observer.empty)).2.stream.length
      (runEdges [0x209#11] (State.reset, Observer.empty)).2.stream := by
  intro i w _ h
  have e : (runEdges [0x209#11] (State.reset, Observer.empty)).2.stream = [0x09#8] := by decide
  rw [e] at h
  have : firstEight ([0x09#8].drop i) = none := by
    rw [firstEight_eq_none, List.length_drop]
    simp
    omega
  rw [this] at h
  cases h
theorem witness_ResetEdgeForgetsThePast : (0x5AB#11).getLsbD 10 = true := by decide

end Sys2Proof.Tests
end

