-- ==== Sys2Proof/Proofs/OutFrame.lean ====
section
/-! PROOFS. The port `out_frame`: its byte lanes and its value as a number (R53). -/

namespace Sys2Proof.Proofs.OutFrame

open Sys2Proof Sys2Proof.Machine

/-- One byte appended below a value is one step of the big-endian reading. -/
theorem toNat_append_byte {n : Nat} (a : BitVec n) (b : Byte) :
    (a ++ b).toNat = a.toNat * 256 + b.toNat := by
  have hb : b.toNat < 2 ^ 8 := b.isLt
  rw [BitVec.toNat_append, ← Nat.shiftLeft_add_eq_or_of_lt hb, Nat.shiftLeft_eq]

/-- Byte 0 is the most significant: a packed frame is read by Horner's rule from byte 0 on (R53). -/
theorem packFrame_toNat (w : Frame) :
    (packFrame w).toNat = w.toList.foldl (fun n b => n * 256 + b.toNat) 0 := by
  rw [frame_toList]
  simp only [packFrame, toNat_append_byte, List.foldl_cons, List.foldl_nil, Nat.zero_mul,
    Nat.zero_add]

/-- Settles O28: the lanes and the unpacking are the two laws of `packFrame` about them, the value is
`packFrame_toNat`, each at the frame register. -/
theorem outFrameLanes : Obligations.OutFrameLanes := by
  intro s
  refine ⟨fun k hk => ?lane, ?value, ?unpacked⟩
  case lane => exact frameByte_packFrame s.fr k hk
  case value => exact packFrame_toNat s.fr
  case unpacked => exact unpackFrame_packFrame s.fr

end Sys2Proof.Proofs.OutFrame
end

/-! PROOFS. The synchronizer (40_synchronizer R109 to R119): what each cycle command and each
micro-operation does to the registers, and what an observer at the ports records beside it. -/

namespace Sys2Proof.Proofs.Synchronizer

open Sys2Proof Sys2Proof.Machine

/-! ### The control bits of a vector and the canonical vectors of R78 -/

theorem civRst_eq_control (v : Civ) : civRst v = (v.extractLsb' 8 3).getLsbD 2 := by
  simp [civRst]

theorem civInValid_eq_control (v : Civ) : civInValid v = (v.extractLsb' 8 3).getLsbD 1 := by
  simp [civInValid]

theorem civOutReady_eq_control (v : Civ) : civOutReady v = (v.extractLsb' 8 3).getLsbD 0 := by
  simp [civOutReady]

theorem nop_controls {v : Civ} (h : v.extractLsb' 8 3 = 0b000#3) :
    civRst v = false ∧ civInValid v = false ∧ civOutReady v = false := by
  rw [civRst_eq_control, civInValid_eq_control, civOutReady_eq_control, h]
  decide

theorem pop_controls {v : Civ} (h : v.extractLsb' 8 3 = 0b001#3) :
    civRst v = false ∧ civInValid v = false ∧ civOutReady v = true := by
  rw [civRst_eq_control, civInValid_eq_control, civOutReady_eq_control, h]
  decide

/-- The canonical PUSH word is the vector of R78. -/
theorem push_word_eq_pushVector (b : Byte) : 0x200#11 ||| b.zeroExtend 11 = pushVector b := by
  revert b; decide

/-- The canonical PUSHPOP word is the vector of R78. -/
theorem pushpop_word_eq_pushpopVector (b : Byte) :
    0x300#11 ||| b.zeroExtend 11 = pushpopVector b := by
  revert b; decide

/-! ### The signals of a cycle -/

@[simp] theorem deliver_self (s : State) : deliver s.ov s = s := rfl

theorem deliver_false_of_not_held {s : State} (h : s.ov = false) : deliver false s = s := by
  rw [← h, deliver_self]

@[simp] theorem resetBlock_resetBlock (s : State) : resetBlock (resetBlock s) = resetBlock s := rfl

theorem present_of_civ {s : State} {v : Civ} (h : s.civ = v) : present v s = s := by
  subst h; rfl

theorem outFire_present (v : Civ) (s : State) :
    outFire (present v s) = (s.ov && civOutReady v) := rfl

/-- R106 in a cycle with `rst = 0`. -/
theorem inReady_present {v : Civ} (h : civRst v = false) (s : State) :
    inReady (present v s) = (!s.ov || civOutReady v) := by
  simp [inReady, h]

theorem full_eq_true {s : State} : full s = true ↔ s.cnt = 7#3 := by
  simp [full]

theorem full_eq_false {s : State} : full s = false ↔ s.cnt ≠ 7#3 := by
  simp [full]

/-- Where no byte is offered, none is accepted (R12). -/
theorem inFire_of_not_inValid {s : State} (h : civInValid s.civ = false) : inFire s = false := by
  simp [inFire, h]

/-- A byte is accepted only where no frame stays held (R106). -/
theorem not_held_of_inFire {s : State} (h : inFire s = true) :
    (s.ov && !civOutReady s.civ) = false := by
  cases hov : s.ov
  case false => rfl
  case true =>
    simp only [inFire, inReady, hov, Bool.not_true, Bool.false_or, Bool.and_eq_true] at h
    obtain ⟨-, -, hready⟩ := h
    simp [hready]

theorem hit_of_not_inFire {s : State} (h : inFire s = false) : hit s = false := by
  simp [hit, h]

theorem hit_of_not_full {s : State} (h : full s = false) : hit s = false := by
  simp [hit, h]

/-- A hit is a full window that the accepted byte makes a frame (R105). -/
theorem hit_eq_true {s : State} :
    hit s = true ↔ inFire s = true ∧ full s = true ∧ frameValid (candidate8 s) = true := by
  simp only [hit, inFire, inReady, Bool.and_eq_true]
  tauto

/-- The candidate window of a full window has eight bytes (R104). -/
theorem candidate8_toList {s : State} (h : s.cnt = 7#3) : (candidate8 s).toList = candidate s :=
  window8_toList_of_full h (inData s)

/-! ### What the observer records -/

/-- The deliveries in a cycle with `rst = 0` (R12, R58). -/
theorem observe_delivered {s : State} (h : civRst s.civ = false) (o : Observer) :
    (observe s o).delivered = o.delivered ++ (if outFire s then [s.fr] else []) := by
  simp [observe, h]

/-- Without a byte accepted only a delivery is recorded (R51, R59). -/
theorem observe_of_not_inFire {s : State} (hr : civRst s.civ = false) (hf : inFire s = false)
    (o : Observer) :
    observe s o = { o with delivered := o.delivered ++ (if outFire s then [s.fr] else []) } := by
  simp [observe, hr, hf, hit_of_not_inFire hf]

/-! ### The three results of the input side, with their frames (R113, R115, R116) -/

/-- ACCUM below seven pending bytes appends its byte and nothing else (R113). -/
theorem appended_accum (b : Byte) {s : State} (h : s.cnt ≠ 7#3) : Appended b s (accum b s) := by
  have hlt := (cnt_toNat_lt_iff s).mpr h
  have hcnt : (accum b s).cnt.toNat = s.cnt.toNat + 1 := by
    rw [accum_cnt, BitVec.toNat_add, BitVec.toNat_ofNat]
    omega
  have hwin : ∀ k, (hk : k < 7) → k ≠ s.cnt.toNat → (accum b s).win[k] = s.win[k] := by
    intro k hk hne
    simp [hne.symm]
  exact ⟨hcnt, pending_accum b s h, hwin, rfl, rfl, rfl, rfl, rfl⟩

/-- HIT emits its window and nothing else (R115). -/
theorem emitted_hitWith (w : Frame) (s : State) : Emitted w s (hitWith w s) :=
  ⟨rfl, rfl, pending_of_cnt_eq_zero rfl, rfl, rfl, rfl, rfl, rfl⟩

/-- MISS discards the oldest byte of a full window and nothing else (R116). -/
theorem slid_miss (b : Byte) {s : State} (h : s.cnt = 7#3) : Slid b s (miss b s) :=
  ⟨rfl, pending_slide b s h, rfl, rfl, rfl, rfl, rfl⟩

theorem appended_consume (b : Byte) {s : State} (h : s.cnt.toNat < 7) :
    Appended b s (consume b s) := by
  have hne := (cnt_toNat_lt_iff s).mp h
  rw [consume_of_not_full b hne]
  exact appended_accum b hne

theorem emitted_consume {b : Byte} {s : State} (h : s.cnt = 7#3)
    (hv : frameValid (window8 s.win b) = true) : Emitted (window8 s.win b) s (consume b s) := by
  rw [consume_of_hit b h hv]
  exact emitted_hitWith _ s

theorem slid_consume {b : Byte} {s : State} (h : s.cnt = 7#3)
    (hv : frameValid (window8 s.win b) = false) : Slid b s (consume b s) := by
  rw [consume_of_miss b h hv]
  exact slid_miss b h

/-! ### The cycle commands (R110 to R112, R117, R118) -/

theorem exec_rst (s : State) : exec .rst s = .next (resetBlock s) := rfl

theorem exec_nop (s : State) : exec .nop s = .next s := rfl

theorem exec_pop (s : State) : exec .pop s = .next (deliver false s) := rfl

theorem exec_push_of_held (b : Byte) {s : State} (h : s.ov = true) :
    exec (.push b) s = .next s := by
  simp [exec, execPush, h]

theorem exec_push_of_not_held (b : Byte) {s : State} (h : s.ov = false) :
    exec (.push b) s = .next (consume b s) := by
  simp [exec, execPush, h]

theorem exec_pushpop (b : Byte) (s : State) :
    exec (.pushpop b) s = .next (consume b (deliver false s)) := rfl

/-- Settles O9: RST is `resetBlock`, which is idempotent; with `rst = 1` the vector decodes to RST
and `in_ready` is 0. -/
theorem rstGivesResetValues : Obligations.RstGivesResetValues := by
  refine ⟨fun s => ⟨?registers, ?again⟩, fun s v hv => ?cycle⟩
  case registers => exact exec_rst s
  case again =>
    intro t ht
    obtain rfl : resetBlock s = t := Host.Outcome.next.inj ht
    rw [exec_rst, resetBlock_resetBlock]
  case cycle =>
    have hr : civRst v = true := hv
    have hready : inReady (present v s) = false := by simp [inReady, hr]
    exact ⟨hready, by simp [inFire, hready], by rw [decodeCiv_rst hr]⟩

/-- The vector of WAIT, on the ports already, changes neither block nor observer (R111). -/
theorem edge_nop {s : State} {v : Civ} (hv : v.extractLsb' 8 3 = 0b000#3) (hs : s.civ = v)
    (o : Observer) : edge v (s, o) = (s, o) := by
  obtain ⟨hr, hi, ho⟩ := nop_controls hv
  have hexec : exec (decodeCiv v) (present v s) = .next s := by
    rw [decodeCiv_nop hr hi ho, present_of_civ hs, exec_nop]
  rw [edge_of_exec o hexec,
    observe_of_not_inFire (s := present v s) hr (inFire_of_not_inValid hi)]
  simp [outFire_present, ho]

theorem runEdges_replicate_of_fixed {v : Civ} {p : State × Observer} (h : edge v p = p) (n : Nat) :
    runEdges (List.replicate n v) p = p := by
  induction n with
  | zero => rfl
  | succ n ih => rw [List.replicate_succ, runEdges_cons, h, ih]

/-- Settles O11: the control bits 000 give NOP and neither transfer, and WAIT repeats an edge that
leaves block and observer fixed. -/
theorem nopKeepsEverything : Obligations.NopKeepsEverything := by
  refine ⟨exec_nop, fun s v hv => ?signals, fun n s o hs => ?wait⟩
  case signals =>
    obtain ⟨hr, hi, ho⟩ := nop_controls hv
    exact ⟨inFire_of_not_inValid (s := present v s) hi, by simp [outFire_present, ho],
      by simp [inReady_present hr, ho]⟩
  case wait => exact runEdges_replicate_of_fixed (edge_nop (by decide) hs o) n

/-- One POP edge: `ov` is cleared, and the frame held, if one is, delivered (R112). -/
theorem edge_pop {v : Civ} (hv : v.extractLsb' 8 3 = 0b001#3) (s : State) (o : Observer) :
    edge v (s, o) = ({ s with ov := false, civ := v },
      { o with delivered := o.delivered ++ (if s.ov then [s.fr] else []) }) := by
  obtain ⟨hr, hi, ho⟩ := pop_controls hv
  have hexec : exec (decodeCiv v) (present v s) = .next (deliver false (present v s)) := by
    rw [decodeCiv_pop hr hi ho, exec_pop]
  rw [edge_of_exec o hexec,
    observe_of_not_inFire (s := present v s) hr (inFire_of_not_inValid hi), outFire_present, ho,
    Bool.and_true]
  rfl

/-- Settles O12: `edge_pop` once for the first edge, and once more with `ov = 0` for the second. -/
theorem popDeliversTheHeldFrame : Obligations.PopDeliversTheHeldFrame := by
  refine ⟨exec_pop, fun s o v hv => ⟨?block, ?observer, ?again⟩⟩
  case block => rw [edge_pop hv]
  case observer => rw [edge_pop hv]
  case again => simp [edge_pop hv]

/-- Settles O13: a held frame stalls; else the byte is consumed with one of the input side's three
results. -/
theorem pushResult : Obligations.PushResult := by
  intro b s
  refine ⟨?ready, fun hov => exec_push_of_held b hov, fun hov hlt => ?accum, fun hov hfull => ?full⟩
  case ready => simp [push_word_eq_pushVector, pushVector, inReady_present]
  case accum => exact ⟨_, exec_push_of_not_held b hov, appended_consume b hlt⟩
  case full =>
    exact ⟨window8_toList_of_full hfull b,
      fun hv => ⟨_, exec_push_of_not_held b hov, emitted_consume hfull hv⟩,
      fun hv => ⟨_, exec_push_of_not_held b hov, slid_consume hfull hv⟩⟩

/-- Settles O14: the held frame is delivered, and the byte consumed with one of the input side's
three results from the state without it. -/
theorem pushpopResult : Obligations.PushpopResult := by
  intro b s
  refine ⟨?signals, fun hlt => ?accum, fun hfull => ?full⟩
  case signals =>
    rw [pushpop_word_eq_pushpopVector]
    have hr : civRst (pushpopVector b) = false := civRst_mkCiv ..
    have ho : civOutReady (pushpopVector b) = true := civOutReady_mkCiv ..
    have hfire : outFire (present (pushpopVector b) s) = s.ov := by simp [outFire_present, ho]
    refine ⟨by simp [inReady_present hr, ho], hfire, fun o => ?_⟩
    rw [observe_delivered (s := present (pushpopVector b) s) hr, hfire, present_fr]
  case accum => exact ⟨_, exec_pushpop b s, appended_consume b (s := deliver false s) hlt⟩
  case full =>
    exact ⟨window8_toList_of_full hfull b,
      fun hv => ⟨_, exec_pushpop b s, emitted_consume (s := deliver false s) hfull hv⟩,
      fun hv => ⟨_, exec_pushpop b s, slid_consume (s := deliver false s) hfull hv⟩⟩

/-! ### The rows of R77 in the signals of the cycle

First each row's match and mask as a condition on the six bits of a selection vector, then what the
rows of one micro-operation say together of the cycle they select. -/

theorem stall_row : ∀ r v o q f k : Bool,
    (rowOf .stall).applies (mkSel r v o q f k).toNat = (!r && v && !o && q) := by decide

theorem accumReady_row : ∀ r v o q f k : Bool,
    (rowOf .accumReady).applies (mkSel r v o q f k).toNat = (!r && v && o && !f) := by decide

theorem accumEmpty_row : ∀ r v o q f k : Bool,
    (rowOf .accumEmpty).applies (mkSel r v o q f k).toNat = (!r && v && !o && !q && !f) := by decide

theorem hitReady_row : ∀ r v o q f k : Bool,
    (rowOf .hitReady).applies (mkSel r v o q f k).toNat = (!r && v && o && f && k) := by decide

theorem hitEmpty_row : ∀ r v o q f k : Bool,
    (rowOf .hitEmpty).applies (mkSel r v o q f k).toNat = (!r && v && !o && !q && f && k) := by
  decide

theorem missReady_row : ∀ r v o q f k : Bool,
    (rowOf .missReady).applies (mkSel r v o q f k).toNat = (!r && v && o && f && !k) := by decide

theorem missEmpty_row : ∀ r v o q f k : Bool,
    (rowOf .missEmpty).applies (mkSel r v o q f k).toNat = (!r && v && !o && !q && f && !k) := by
  decide

theorem deliver_row : ∀ r v o q f k : Bool,
    (rowOf .deliver).applies (mkSel r v o q f k).toNat = (!r && o && q) := by decide

/-- One of ACCUM's rows applies exactly where a byte is accepted below seven pending bytes (R77). -/
theorem accum_rows_iff (s : State) :
    (rowOf .accumReady).applies (selVector s).toNat = true ∨
      (rowOf .accumEmpty).applies (selVector s).toNat = true ↔
    inFire s = true ∧ full s = false := by
  simp only [selVector, accumReady_row, accumEmpty_row, inFire, inReady]
  cases civOutReady s.civ <;> simp [and_assoc, and_left_comm]

/-- One of HIT's rows applies exactly in a cycle with a hit (R77, R105). -/
theorem hit_rows_iff (s : State) :
    (rowOf .hitReady).applies (selVector s).toNat = true ∨
      (rowOf .hitEmpty).applies (selVector s).toNat = true ↔ hit s = true := by
  simp only [hit_eq_true, selVector, hitReady_row, hitEmpty_row, fv, inFire, inReady]
  cases civOutReady s.civ <;> simp [and_assoc, and_left_comm]

/-- One of MISS's rows applies exactly where an evaluated window is no frame (R77, R105). -/
theorem miss_rows_iff (s : State) :
    (rowOf .missReady).applies (selVector s).toNat = true ∨
      (rowOf .missEmpty).applies (selVector s).toNat = true ↔
    inFire s = true ∧ full s = true ∧ frameValid (candidate8 s) = false := by
  simp only [selVector, missReady_row, missEmpty_row, fv, inFire, inReady]
  cases civOutReady s.civ <;> cases full s <;> simp [and_assoc, and_left_comm]

/-- HIT's row with `out_ready = 0` asks for `ov = 0` (R77). -/
theorem ov_of_hitEmpty_row {s : State} (h : (rowOf .hitEmpty).applies (selVector s).toNat = true) :
    s.ov = false := by
  simp only [selVector, hitEmpty_row, Bool.and_eq_true, Bool.not_eq_true'] at h
  tauto

/-- STALL's row applies exactly where a byte is offered beside a held frame and an unready consumer
(R77, R119). -/
theorem stall_row_iff (s : State) :
    (rowOf .stall).applies (selVector s).toNat = true ↔
      civRst s.civ = false ∧ civInValid s.civ = true ∧ civOutReady s.civ = false ∧ s.ov = true := by
  simp [selVector, stall_row, and_assoc]

/-- DELIVER's row applies exactly where `OutFire` holds with `rst = 0` (R77, R114). -/
theorem deliver_row_iff (s : State) :
    (rowOf .deliver).applies (selVector s).toNat = true ↔
      civRst s.civ = false ∧ outFire s = true := by
  simp [selVector, deliver_row, outFire, and_assoc, and_comm]

/-! ### The micro-operations (R113 to R116, R119) -/

/-- The instructions that are micro-operations, the rows of format SEL6 (R77). -/
def microOps : List Instr :=
  [.stall, .accumReady, .accumEmpty, .hitReady, .hitEmpty, .missReady, .missEmpty, .deliver]

/-- A micro-operation's row applies only to selection vectors that select it (R77). -/
theorem selects_of_applies :
    ∀ i ∈ microOps, ∀ sv : Sel, (rowOf i).applies sv.toNat = true → selects sv i = true := by
  decide

/-- A micro-operation makes its assignment in every cycle its row selects (R77). -/
theorem exec_of_row {i : Instr} {assign : State → State} {s : State}
    (hi : i ∈ microOps) (hexec : exec i s = .next (whenSelected i assign s))
    (hrow : (rowOf i).applies (selVector s).toNat = true) :
    exec i s = .next (assign s) := by
  rw [hexec, whenSelected_of_selects (selects_of_applies i hi _ hrow)]

/-- ACCUM, in the cycles of either row (R113). -/
theorem accum_row_result {i : Instr} {s : State}
    (hrow : (rowOf .accumReady).applies (selVector s).toNat = true ∨
      (rowOf .accumEmpty).applies (selVector s).toNat = true)
    (hexec : exec i s = .next (accum (inData s) s)) :
    hit s = false ∧ ∃ t, exec i s = .next t ∧ Appended (inData s) s t := by
  obtain ⟨-, hfull⟩ := (accum_rows_iff s).mp hrow
  exact ⟨hit_of_not_full hfull, _, hexec, appended_accum _ (full_eq_false.mp hfull)⟩

/-- HIT, in the cycles of either row (R115). -/
theorem hit_row_result {i : Instr} {s : State}
    (hrow : (rowOf .hitReady).applies (selVector s).toNat = true ∨
      (rowOf .hitEmpty).applies (selVector s).toNat = true)
    (hexec : exec i s = .next (hitWith (candidate8 s) s)) :
    (candidate8 s).toList = candidate s ∧ frameValid (candidate8 s) = true ∧ hit s = true ∧
      ∃ t, exec i s = .next t ∧ Emitted (candidate8 s) s t := by
  have hhit := (hit_rows_iff s).mp hrow
  obtain ⟨-, hfull, hvalid⟩ := hit_eq_true.mp hhit
  exact ⟨candidate8_toList (full_eq_true.mp hfull), hvalid, hhit, _, hexec, emitted_hitWith _ s⟩

/-- MISS, in the cycles of either row (R116). -/
theorem miss_row_result {i : Instr} {s : State}
    (hrow : (rowOf .missReady).applies (selVector s).toNat = true ∨
      (rowOf .missEmpty).applies (selVector s).toNat = true)
    (hexec : exec i s = .next (miss (inData s) s)) :
    frameValid (candidate8 s) = false ∧ hit s = false ∧
      ∃ t, exec i s = .next t ∧ Slid (inData s) s t ∧ pending t = (candidate s).tail := by
  obtain ⟨-, hfull, hinvalid⟩ := (miss_rows_iff s).mp hrow
  have hcnt := full_eq_true.mp hfull
  exact ⟨hinvalid, by simp [hit, hinvalid], _, hexec, slid_miss _ hcnt, pending_slide _ s hcnt⟩

/-- Settles O19: both rows by `accum_row_result`. -/
theorem accumResult : Obligations.AccumResult := fun _ =>
  ⟨fun h => accum_row_result (.inl h) (exec_of_row (by decide) rfl h),
    fun h => accum_row_result (.inr h) (exec_of_row (by decide) rfl h)⟩

/-- Settles O20: both rows by `hit_row_result`; the second asks for `ov = 0` besides. -/
theorem hitResult : Obligations.HitResult := by
  intro s
  refine ⟨fun h => hit_row_result (.inl h) (exec_of_row (by decide) rfl h), fun h => ?empty⟩
  obtain ⟨height, hvalid, hhit, hemit⟩ :=
    hit_row_result (.inr h) (exec_of_row (by decide) rfl h)
  exact ⟨height, hvalid, hhit, ov_of_hitEmpty_row h, hemit⟩

/-- Settles O21: both rows by `miss_row_result`. -/
theorem missResult : Obligations.MissResult := fun _ =>
  ⟨fun h => miss_row_result (.inl h) (exec_of_row (by decide) rfl h),
    fun h => miss_row_result (.inr h) (exec_of_row (by decide) rfl h)⟩

/-- Settles O22: STALL's row says that `in_ready` is 0, so nothing is accepted. -/
theorem stallResult : Obligations.StallResult := by
  intro s hrow
  obtain ⟨hr, hi, ho, hov⟩ := (stall_row_iff s).mp hrow
  have hready : inReady s = false := by simp [inReady, ho, hov]
  have hfire : inFire s = false := by simp [inFire, hready]
  exact ⟨hi, hready, hfire, hov, rfl, fun o => by rw [observe_of_not_inFire hr hfire]⟩

/-! ### The next-state function (R109) -/

theorem inFire_eq_r109InFire {s : State} (h : civRst s.civ = false) :
    inFire s = r109InFire s := by
  simp [inFire, inReady, r109InFire, h]

theorem hit_eq_r109Hit {s : State} (h : civRst s.civ = false) : hit s = r109Hit s := by
  simp [hit, r109Hit, inFire_eq_r109InFire h, h, full]

theorem nextState_of_rst {s : State} (h : civRst s.civ = true) : nextState s = resetBlock s := by
  simp [nextState, h, resetBlock]

theorem nextState_ov {s : State} (h : civRst s.civ = false) :
    (nextState s).ov = (hit s || (s.ov && !civOutReady s.civ)) := by
  simp [nextState, h, hit_eq_r109Hit h]

/-- Without a byte accepted, only `ov` can change (R109, R114). -/
theorem nextState_of_not_inFire {s : State} (hr : civRst s.civ = false)
    (hf : inFire s = false) :
    nextState s = deliver (s.ov && !civOutReady s.civ) s := by
  rw [inFire_eq_r109InFire hr] at hf
  simp [nextState, hr, hf, r109Hit, deliver]

/-- With a byte accepted, no frame stays held, so `ov'` is the hit signal: the byte is consumed from
the state without the frame (R109, R113 to R116). -/
theorem nextState_of_inFire {s : State} (hr : civRst s.civ = false) (hf : inFire s = true) :
    nextState s = consume (inData s) (deliver false s) := by
  have hheld := not_held_of_inFire hf
  rw [inFire_eq_r109InFire hr] at hf
  rcases consume_cases (inData s) (deliver false s) with
    ⟨hcnt, hc⟩ | ⟨hcnt, hv, hc⟩ | ⟨hcnt, hv, hc⟩ <;> rw [hc]
  case inl =>
    have hlt := (cnt_toNat_lt_iff s).mpr hcnt
    have hnotfull : s.cnt ≠ 7#3 := hcnt
    have hhit : r109Hit s = false := by simp [r109Hit, hnotfull]
    simp [nextState, hr, hf, hheld, hlt, hhit, accum, deliver]
  case inr.inl =>
    have hfull : s.cnt = 7#3 := hcnt
    have hhit : r109Hit s = true := by simpa [r109Hit, hf, hfull, candidate8] using hv
    simp [nextState, hr, hf, hfull, hhit, hitWith, deliver, candidate8]
  case inr.inr =>
    have hfull : s.cnt = 7#3 := hcnt
    have hhit : r109Hit s = false := by simpa [r109Hit, hf, hfull, candidate8] using hv
    simp [nextState, hr, hf, hfull, hhit, hheld, miss, slide, deliver]

/-- The command the vector on the ports selects computes the next state: a cycle that accepts no
byte can only release the held frame, one that accepts a byte consumes it with no frame held. -/
theorem exec_decodeCiv_eq_nextState (s : State) :
    exec (decodeCiv s.civ) s = .next (nextState s) := by
  cases hr : civRst s.civ
  case true => rw [decodeCiv_rst hr, exec_rst, nextState_of_rst hr]
  case false =>
    cases hi : civInValid s.civ <;> cases ho : civOutReady s.civ
    case false.false =>
      have hf := inFire_of_not_inValid hi
      rw [decodeCiv_nop hr hi ho, exec_nop, nextState_of_not_inFire hr hf, ho, Bool.not_false,
        Bool.and_true, deliver_self]
    case false.true =>
      have hf := inFire_of_not_inValid hi
      rw [decodeCiv_pop hr hi ho, exec_pop, nextState_of_not_inFire hr hf, ho, Bool.not_true,
        Bool.and_false]
    case true.false =>
      rw [decodeCiv_push hr hi ho]
      cases hov : s.ov
      case true =>
        have hf : inFire s = false := by simp [inFire, inReady, ho, hov]
        rw [exec_push_of_held _ hov, nextState_of_not_inFire hr hf, ho, Bool.not_false,
          Bool.and_true, deliver_self]
      case false =>
        have hf : inFire s = true := by simp [inFire, inReady, hr, hi, hov]
        rw [exec_push_of_not_held _ hov, nextState_of_inFire hr hf, deliver_false_of_not_held hov]
        rfl
    case true.true =>
      have hf : inFire s = true := by simp [inFire, inReady, hr, hi, ho]
      rw [decodeCiv_pushpop hr hi ho, exec_pushpop, nextState_of_inFire hr hf]
      rfl

/-- Settles O26: `exec_decodeCiv_eq_nextState` in the cycle that presents the vector. -/
theorem commandsComputeTheNextStateFunction : Obligations.CommandsComputeTheNextStateFunction :=
  fun v s => exec_decodeCiv_eq_nextState (present v s)

/-- Settles O23: DELIVER by its row; a whole cycle by the next-state function it computes (O26). -/
theorem deliverResult : Obligations.DeliverResult := by
  refine ⟨fun s hrow => ?row, fun v s hv => ?cycle⟩
  case row =>
    obtain ⟨hr, hfire⟩ := (deliver_row_iff s).mp hrow
    exact ⟨hfire, exec_of_row (by decide) rfl hrow, fun o => by simp [observe_delivered hr, hfire]⟩
  case cycle =>
    have hr : civRst (present v s).civ = false := hv
    exact ⟨_, commandsComputeTheNextStateFunction v s, nextState_ov hr⟩

end Sys2Proof.Proofs.Synchronizer

/-! PROOFS. The ReadingDecoder (41_decoder R150 to R157): the ports in terms of the frame's bytes as
numbers, and the exact values that `cur_exp` scales the two mantissas to. -/

namespace Sys2Proof.Proofs.Decoder

open Sys2Proof Sys2Proof.Machine

/-! ### The field ports (R150, R151, R157) -/

/-- Byte 4 is the high byte of the mantissa (R150). -/
theorem decMant_toNat (w : Frame) : (decMant w).toNat = w[4].toNat * 256 + w[5].toNat :=
  OutFrame.toNat_append_byte w[4] w[5]

/-- Joining two bytes is shifting the first up and OR-ing in the second, R150's second form. -/
theorem append_eq_shiftLeft_or (a b : Byte) :
    (a ++ b : BitVec 16) = a.zeroExtend 16 <<< 8 ||| b.zeroExtend 16 := by
  rw [BitVec.append_def, BitVec.shiftLeftZeroExtend_eq, BitVec.setWidth'_eq]

/-- Settles O33: each port is two bytes joined, or one byte, so the clauses are the laws of joined
bytes. -/
theorem decoderFields : Obligations.DecoderFields := fun w =>
  ⟨decMant_toNat w, append_eq_shiftLeft_or w[4] w[5], rfl,
    append_extract_high w[2] w[3], append_extract_low w[2] w[3]⟩

/-! ### The scale of both values (R154) -/

/-- Nine bits hold the exponent with its offset of 15 exactly (R154). -/
theorem curExp_toInt (w : Frame) : (curExp w).toInt = ((decExp w).toNat : Int) - 15 := by
  have hexp : (decExp w).toNat < 2 ^ 8 := (decExp w).isLt
  have hnat : (curExp w).toNat = ((decExp w).toNat + 497) % 512 := by
    simp [curExp]
  rw [BitVec.toInt_eq_toNat_cond, hnat]
  split <;> omega

/-- Dividing the mantissa by `MANT_SCALE = 2^15` lowers the exponent by 15 (R152, R154). -/
theorem current_eq_mant_mul_two_zpow (w : Frame) :
    current w = ((decMant w).toNat : ℚ) * (2 : ℚ) ^ (curExp w).toInt := by
  have hscale : (Config.mantScale : ℚ) = 2 ^ 15 := by norm_num [Config.mantScale]
  calc current w
      = ((decMant w).toNat : ℚ) * ((2 : ℚ) ^ (decExp w).toNat / 2 ^ 15) := by
        rw [current, hscale, div_mul_eq_mul_div, mul_div_assoc]
    _ = ((decMant w).toNat : ℚ) * (2 : ℚ) ^ (((decExp w).toNat : Int) - (15 : Nat)) := by
        rw [zpow_natCast_sub_natCast₀ two_ne_zero]
    _ = ((decMant w).toNat : ℚ) * (2 : ℚ) ^ (curExp w).toInt := by
        rw [curExp_toInt, Nat.cast_ofNat]

/-- Settles O34: the range is that of a byte less 15. -/
theorem curExpIsExponentMinusFifteen : Obligations.CurExpIsExponentMinusFifteen := by
  intro w
  have hvalue := curExp_toInt w
  have hexp : (decExp w).toNat < 2 ^ 8 := (decExp w).isLt
  exact ⟨hvalue, by omega, by omega, current_eq_mant_mul_two_zpow w⟩

/-! ### The power's mantissa (R155) -/

/-- The product of a mantissa and `VOLTAGE = 240` does not wrap in 24 bits (R155). -/
theorem powMant_toNat (w : Frame) : (powMant w).toNat = (decMant w).toNat * 240 := by
  have hmant : (decMant w).toNat < 2 ^ 16 := (decMant w).isLt
  have hmod : (powMant w).toNat = (decMant w).toNat * 240 % 2 ^ 24 := by
    simp [powMant, Config.voltage]
  omega

/-- Multiplying by 240 is subtracting 16 times from 256 times, R155's second form. -/
theorem powMant_eq_shiftLeft_sub (w : Frame) :
    powMant w = ((decMant w).zeroExtend 24 <<< 8) - ((decMant w).zeroExtend 24 <<< 4) := by
  rw [BitVec.shiftLeft_eq_mul_twoPow, BitVec.shiftLeft_eq_mul_twoPow, ← BitVec.mul_sub]
  rfl

/-- The power has the current's scale, with the mantissa multiplied by 240 (R153, R155). -/
theorem power_eq_powMant_mul_two_zpow (w : Frame) :
    power w = ((powMant w).toNat : ℚ) * (2 : ℚ) ^ (curExp w).toInt := by
  calc power w
      = ((decMant w).toNat : ℚ) * (2 : ℚ) ^ (curExp w).toInt * (240 : Nat) := by
        rw [power, current_eq_mant_mul_two_zpow, Config.voltage]
    _ = ((powMant w).toNat : ℚ) * (2 : ℚ) ^ (curExp w).toInt := by
        rw [powMant_toNat, Nat.cast_mul, mul_right_comm]

/-- Settles O35: the bound is that of a 16-bit mantissa times 240. -/
theorem powMantIsExactProduct : Obligations.PowMantIsExactProduct := by
  intro w
  have hproduct := powMant_toNat w
  have hmant : (decMant w).toNat < 2 ^ 16 := (decMant w).isLt
  exact ⟨hproduct, by omega, powMant_eq_shiftLeft_sub w, power_eq_powMant_mul_two_zpow w⟩

end Sys2Proof.Proofs.Decoder

/-! PROOFS. The diagnostic trace of a block built with DIAG = 1 (42_diagnostics R181): its four ports in
terms of the signals of the cycle. -/

namespace Sys2Proof.Proofs.Diagnostics

open Sys2Proof Sys2Proof.Machine

/-! ### The signals the trace reports -/

/-- In a reset cycle no byte is accepted (R106). -/
theorem inFire_of_rst {s : State} (h : civRst s.civ = true) : inFire s = false := by
  simp [inFire, inReady, h]

/-- An evaluation is an accepted byte with seven pending, outside reset (R105). -/
theorem evaluates_eq_true {s : State} :
    evaluates s = true ↔ civRst s.civ = false ∧ inFire s = true ∧ s.cnt = 7#3 := by
  simp only [evaluates, Bool.and_eq_true, Bool.not_eq_true', Synchronizer.full_eq_true, and_assoc]

/-- In a reset cycle nothing is evaluated (R105). -/
theorem evaluates_of_rst {s : State} (h : civRst s.civ = true) : evaluates s = false := by
  simp [evaluates, h]

/-- The stream in a cycle with `rst = 0` grows by the byte accepted (R51). -/
theorem observe_stream {s : State} (h : civRst s.civ = false) (o : Observer) :
    (observe s o).stream = o.stream ++ (if inFire s then [inData s] else []) := by
  simp [observe, h]

/-! ### The four ports with DIAG = 1 (R181) -/

@[simp] theorem dbgByteValid_on (s : State) : dbgByteValid true s = inFire s := rfl

@[simp] theorem dbgEvalValid_on (s : State) : dbgEvalValid true s = evaluates s := rfl

theorem dbgByte_of_inFire {s : State} (h : inFire s = true) : dbgByte true s = inData s := by
  simp [dbgByte, h]

theorem dbgByte_of_not_inFire {s : State} (h : inFire s = false) : dbgByte true s = 0x00#8 := by
  simp [dbgByte, h]

theorem dbgSum_of_evaluates {s : State} (h : evaluates s = true) :
    dbgSum true s = checksum (candidate8 s) := by
  simp [dbgSum, h]

theorem dbgSum_of_not_evaluates {s : State} (h : evaluates s = false) :
    dbgSum true s = 0x00#8 := by
  simp [dbgSum, h]

/-- What the byte ports show is what the observer's stream grows by, in every cycle outside reset. -/
theorem observe_stream_eq_trace {s : State} (h : civRst s.civ = false) (o : Observer) :
    (observe s o).stream =
      o.stream ++ (if dbgByteValid true s then [dbgByte true s] else []) := by
  rw [observe_stream h, dbgByteValid_on]
  cases hf : inFire s
  case false => rfl
  case true => rw [dbgByte_of_inFire hf]

/-- Settles O31: the ports are the signals `inFire` and `evaluates` with the values they qualify; an
evaluation has seven pending bytes, so the window summed is the whole candidate. -/
theorem traceShowsBytesAndEvaluations : Obligations.TraceShowsBytesAndEvaluations := by
  intro s o
  refine ⟨?stream, Iff.rfl, dbgByte_of_inFire, dbgByte_of_not_inFire, ?inReset, evaluates_eq_true,
    ?evaluation, dbgSum_of_not_evaluates⟩
  case stream => exact fun hr => observe_stream_eq_trace hr o
  case inReset => exact fun hr => ⟨inFire_of_rst hr, evaluates_of_rst hr⟩
  case evaluation =>
    intro heval
    obtain ⟨-, -, hcnt⟩ := evaluates_eq_true.mp heval
    exact ⟨Synchronizer.candidate8_toList hcnt, dbgSum_of_evaluates heval⟩

end Sys2Proof.Proofs.Diagnostics

/-! PROOFS. The absence of exceptions (60_exceptions R200, R204): every instruction and every step
answers a next state. -/

namespace Sys2Proof.Proofs.Exceptions

open Sys2Proof Sys2Proof.Machine

/-! ### What a step runs, by the environment's next move (R20, R73, R79) -/

/-- A vector runs the cycle command it selects, in the cycle that presents it (R76). -/
theorem step_of_vector {s t : State} {v : Civ} (h : nextInput s = (.vector v, t)) :
    step s = exec (decodeCiv v) (present v t) := by
  rw [step, h]

/-- A frame word that decodes runs as its instruction (R70, R102). -/
theorem step_of_frame {s t : State} {F : FrameWord} {i : Instr}
    (h : nextInput s = (.frame F, t)) (hd : decodeFrame F = .ok i) : step s = exec i t := by
  simp only [step, h, hd]

/-- Eight bytes that are no frame are fed all the same (R73, R79). -/
theorem step_of_not_frame {s t : State} {F : FrameWord} {e : DecodeError}
    (h : nextInput s = (.frame F, t)) (hd : decodeFrame F = .error e) :
    step s = .next (feed (unpackFrame F).toList t) := by
  simp only [step, h, hd]

/-! ### No fault, refusal or trap (R200) -/

/-- No arm of `exec` faults or refuses. The commands answer by their laws, PUSH by its two cases; a
micro-operation answers even in a cycle that does not select it, where it assigns nothing. -/
theorem exec_answers_next (i : Instr) (s : State) : ∃ t, exec i s = .next t := by
  cases i with
  | rst => exact ⟨_, Synchronizer.exec_rst s⟩
  | nop => exact ⟨_, Synchronizer.exec_nop s⟩
  | pop => exact ⟨_, Synchronizer.exec_pop s⟩
  | push b =>
    cases hov : s.ov
    case true => exact ⟨_, Synchronizer.exec_push_of_held b hov⟩
    case false => exact ⟨_, Synchronizer.exec_push_of_not_held b hov⟩
  | pushpop b => exact ⟨_, Synchronizer.exec_pushpop b s⟩
  | frame dev mant exp ck => exact ⟨feed (frameOfFields dev mant exp ck).toList s, rfl⟩
  | stall | accumReady | accumEmpty | hitReady | hitEmpty | missReady | missEmpty | deliver =>
    exact ⟨_, rfl⟩

/-- A step runs one instruction, or feeds the bytes of a word that is no frame. -/
theorem step_answers_next (s : State) : ∃ t, step s = .next t := by
  rcases hin : nextInput s with ⟨v | F, t⟩
  case vector =>
    rw [step_of_vector hin]
    exact exec_answers_next _ _
  case frame =>
    cases hd : decodeFrame F with
    | ok i =>
      rw [step_of_frame hin hd]
      exact exec_answers_next i t
    | error e => exact ⟨_, step_of_not_frame hin hd⟩

/-- Settles O42: the instructions by the arms of `exec`, the steps by what each runs. -/
theorem nothingEverTraps : Obligations.NothingEverTraps :=
  ⟨exec_answers_next, step_answers_next⟩

end Sys2Proof.Proofs.Exceptions

/-! PROOFS. The encodings (30_encoding R70 to R79) and the validation functions (40_synchronizer R100 to
R103): frames as numbers and as bytes, the rows of format CIV11, and what the checksum detects. -/

namespace Sys2Proof.Proofs.Encoding

open Sys2Proof Sys2Proof.Machine

/-! ### The frame decoder, by its one test (R102) -/

theorem decodeFrame_of_valid {F : FrameWord} (h : frameValid (unpackFrame F) = true) :
    decodeFrame F = .ok (.frame (frameDev (unpackFrame F)) (frameMant (unpackFrame F))
      (frameExp (unpackFrame F)) (frameCk (unpackFrame F))) := by
  simp [decodeFrame, h]

theorem decodeFrame_of_not_valid {F : FrameWord} (h : frameValid (unpackFrame F) = false) :
    decodeFrame F = .error .notAFrame := by
  simp [decodeFrame, h]

/-- The decoder accepts exactly the valid values, the fourth clause of R71's statement. -/
theorem decodeFrame_accepts_iff {F : FrameWord} :
    (∃ i, decodeFrame F = .ok i) ↔ frameValid (unpackFrame F) = true := by
  cases h : frameValid (unpackFrame F)
  case false => simp [decodeFrame_of_not_valid h]
  case true => simp [decodeFrame_of_valid h]

/-- A valid frame is rebuilt from its fields (R70, R72). -/
theorem frameOfFields_of_valid {w : Frame} (h : frameValid w = true) :
    frameOfFields (frameDev w) (frameMant w) (frameExp w) (frameCk w) = w :=
  frameOfFields_of_headerMatch (frameValid_eq_true.mp h).1

/-! ### The fields of a frame built from fields (R70, R72) -/

@[simp] theorem frameDev_frameOfFields (dev mant : BitVec 16) (exp ck : Byte) :
    frameDev (frameOfFields dev mant exp ck) = dev :=
  extract_high_append_low dev

@[simp] theorem frameMant_frameOfFields (dev mant : BitVec 16) (exp ck : Byte) :
    frameMant (frameOfFields dev mant exp ck) = mant :=
  extract_high_append_low mant

@[simp] theorem frameExp_frameOfFields (dev mant : BitVec 16) (exp ck : Byte) :
    frameExp (frameOfFields dev mant exp ck) = exp := rfl

@[simp] theorem frameCk_frameOfFields (dev mant : BitVec 16) (exp ck : Byte) :
    frameCk (frameOfFields dev mant exp ck) = ck := rfl

/-! ### The control bits of PUSH and PUSHPOP, and their canonical vectors (R76, R78) -/

theorem push_controls {v : Civ} (h : v.extractLsb' 8 3 = 0b010#3) :
    civRst v = false ∧ civInValid v = true ∧ civOutReady v = false := by
  rw [Synchronizer.civRst_eq_control, Synchronizer.civInValid_eq_control,
    Synchronizer.civOutReady_eq_control, h]
  decide

theorem pushpop_controls {v : Civ} (h : v.extractLsb' 8 3 = 0b011#3) :
    civRst v = false ∧ civInValid v = true ∧ civOutReady v = true := by
  rw [Synchronizer.civRst_eq_control, Synchronizer.civInValid_eq_control,
    Synchronizer.civOutReady_eq_control, h]
  decide

@[simp] theorem decodeCiv_pushVector (b : Byte) : decodeCiv (pushVector b) = .push b := by
  simp [pushVector, decodeCiv_push]

@[simp] theorem decodeCiv_pushpopVector (b : Byte) :
    decodeCiv (pushpopVector b) = .pushpop b := by
  simp [pushpopVector, decodeCiv_pushpop]

/-- Settles O1: the words of the constant rows decode by computation, those of PUSH and PUSHPOP are the
vectors of R78, and a frame's word unpacks to the bytes its fields were laid out in. -/
theorem decodeEncodeRoundTrip : Obligations.DecodeEncodeRoundTrip := by
  intro i hwf
  cases i with
  | rst | nop | pop => decide
  | stall | accumReady | accumEmpty | hitReady | hitEmpty | missReady | missEmpty | deliver => decide
  | push b => simp [encode, decode, Synchronizer.push_word_eq_pushVector]
  | pushpop b => simp [encode, decode, Synchronizer.pushpop_word_eq_pushpopVector]
  | frame dev mant exp ck =>
    have hvalid : frameValid (unpackFrame (packFrame (frameOfFields dev mant exp ck))) = true := by
      rw [unpackFrame_packFrame]
      exact hwf
    simp [encode, decode, decodeFrame_of_valid hvalid]

/-- Settles O2: what decodes is a valid frame, and such a frame is rebuilt from its fields, bytes and
word alike. -/
theorem decodedFrameIsWellFormedAndKeepsEveryBit :
    Obligations.DecodedFrameIsWellFormedAndKeepsEveryBit := by
  intro F i hdec
  have hvalid : frameValid (unpackFrame F) = true := decodeFrame_accepts_iff.mp ⟨i, hdec⟩
  have hfields := frameOfFields_of_valid hvalid
  obtain rfl := Except.ok.inj ((decodeFrame_of_valid hvalid).symm.trans hdec)
  exact ⟨by simp [Instr.wellFormed, hfields, hvalid], by simp [encode, hfields]⟩

/-! ### The header as a match and mask (R71) -/

/-- The mask selects the two header lanes. -/
theorem headerMatch_iff_mask {F : FrameWord} :
    headerMatch (unpackFrame F) = true ↔
      F &&& 0xFFFF000000000000#64 = 0x0994000000000000#64 := by
  constructor
  case mp =>
    intro h
    rw [← packFrame_unpackFrame F, ← frameOfFields_of_headerMatch h]
    exact Laws.RowMatch.packFrame_and_headerMask ..
  case mpr =>
    intro h
    have hones (x : Byte) : x &&& 0xFF#8 = x := BitVec.and_allOnes
    have hlane (k : Nat) : (F &&& 0xFFFF000000000000#64).extractLsb' k 8 =
        (0x0994000000000000#64).extractLsb' k 8 := by rw [h]
    have h0 : F.extractLsb' 56 8 = 0x09#8 := by
      simpa [BitVec.extractLsb'_and, hones] using hlane 56
    have h1 : F.extractLsb' 48 8 = 0x94#8 := by
      simpa [BitVec.extractLsb'_and, hones] using hlane 48
    simp [headerMatch, unpackFrame, frameByte, h0, h1, Config.hdr0, Config.hdr1]

/-- The checksum byte of a 64-bit value against the sum of its other lanes (R101, R102). -/
theorem frameValid_iff_toNat {w : Frame} :
    frameValid w = true ↔ headerMatch w = true ∧ w[7].toNat = byteSum w % 256 := by
  rw [frameValid_eq_true, ← checksum_toNat, ← BitVec.toNat_inj, eq_comm (a := (checksum w).toNat)]

/-- With the header in place its bytes add `0x9D` to the checksum (R71). -/
theorem byteSum_of_headerMatch {w : Frame} (h : headerMatch w = true) :
    byteSum w = 0x9D + w[2].toNat + w[3].toNat + w[4].toNat + w[5].toNat + w[6].toNat := by
  simp only [headerMatch, Bool.and_eq_true, beq_iff_eq] at h
  obtain ⟨h0, h1⟩ := h
  simp [byteSum, h0, h1, Config.hdr0, Config.hdr1]

/-- Settles O3: `headerMatch_iff_mask` for the header, `frameValid_iff_toNat` for the full test, and the
header's own bytes summed for the equivalent form. -/
theorem frameIsHeaderMatchAndChecksum : Obligations.FrameIsHeaderMatchAndChecksum := by
  intro F
  refine ⟨headerMatch_iff_mask, ?full, fun hmask => ?given, decodeFrame_accepts_iff⟩
  case full =>
    rw [← headerMatch_iff_mask]
    exact frameValid_iff_toNat
  case given =>
    have hheader := headerMatch_iff_mask.mpr hmask
    rw [frameValid_iff_toNat, byteSum_of_headerMatch hheader, and_iff_right hheader]
    rfl

/-! ### The checksum in eight bits (R101) -/

theorem byteSum_le (w : Frame) : byteSum w ≤ 1785 := by
  have hbyte (b : Byte) : b.toNat ≤ 255 := Nat.le_of_lt_succ b.isLt
  have := hbyte w[0]; have := hbyte w[1]; have := hbyte w[2]; have := hbyte w[3]
  have := hbyte w[4]; have := hbyte w[5]; have := hbyte w[6]
  simp only [byteSum]
  omega

/-- Reducing after every addition gives the same byte as reducing once (R101). -/
theorem checksum_eq_sum (w : Frame) :
    checksum w = w[0] + w[1] + w[2] + w[3] + w[4] + w[5] + w[6] := by
  apply BitVec.eq_of_toNat_eq
  simp only [checksum_toNat, byteSum, BitVec.toNat_add]
  omega

/-- Settles O7: the value is `checksum_toNat`, the bounds are `byteSum_le`. -/
theorem checksumIsSumModulo256 : Obligations.ChecksumIsSumModulo256 := fun w =>
  ⟨checksum_toNat w, byteSum_le w, Nat.lt_of_le_of_lt (byteSum_le w) (by decide), checksum_eq_sum w⟩

/-! ### What the checksum detects (R103) -/

/-- A valid frame as three equations between bytes. -/
theorem frameValid_iff_bytes {w : Frame} :
    frameValid w = true ↔
      w[0] = 0x09#8 ∧ w[1] = 0x94#8 ∧
        w[0] + w[1] + w[2] + w[3] + w[4] + w[5] + w[6] = w[7] := by
  simp [frameValid_eq_true, headerMatch, checksum_eq_sum, Config.hdr0, Config.hdr1, and_assoc]

/-- Header, five bytes and their checksum are a frame (R103). -/
theorem frameValid_complete (p2 p3 p4 p5 p6 : Byte) :
    frameValid #v[0x09#8, 0x94#8, p2, p3, p4, p5, p6, 0x9D#8 + p2 + p3 + p4 + p5 + p6] = true :=
  frameValid_iff_bytes.mpr ⟨rfl, rfl, rfl⟩

/-- In a valid frame every byte is determined by the other seven (R103). -/
theorem byte_unique_of_valid {w : Frame} {k : Nat} (hk : k < 8) {b : Byte}
    (h : frameValid w = true) (hset : frameValid (w.set k b) = true) : b = w[k] := by
  obtain ⟨h0, h1, hsum⟩ := frameValid_iff_bytes.mp h
  obtain ⟨h0', h1', hsum'⟩ := frameValid_iff_bytes.mp hset
  simp only [Vector.getElem_set] at h0' h1' hsum'
  interval_cases k <;> simp at h0' h1' hsum' ⊢
  · rw [h0, h0']
  · rw [h1, h1']
  iterate 5 · simpa only [← hsum, add_left_inj, add_right_inj] using hsum'
  · rw [← hsum, hsum']

/-- Settles O8: completion is `frameValid_complete`; a changed byte contradicts `byte_unique_of_valid`;
the pair of changes leaves the sum as it was. -/
theorem checksumExactness : Obligations.ChecksumExactness := by
  refine ⟨frameValid_complete, fun w k hk b h hb => ?single, fun w h => ?pair⟩
  case single =>
    exact Bool.eq_false_iff.mpr fun hset => hb (byte_unique_of_valid hk h hset)
  case pair =>
    obtain ⟨h0, h1, hsum⟩ := frameValid_iff_bytes.mp h
    have hpair : (w[2] + 1#8) + (w[3] - 1#8) = w[2] + w[3] := add_add_sub_cancel ..
    simp only [frameValid_iff_bytes, Vector.getElem_set, reduceIte, Nat.reduceEqDiff]
    refine ⟨h0, h1, ?_⟩
    rw [add_assoc (w[0] + w[1]), hpair, ← add_assoc, hsum]

/-! ### The stimulus lines (R79) -/

/-- Settles O18: FRAME's bytes are a completed frame; BADFRAME's differ from it in the last byte alone,
and a frame determines its last byte. -/
theorem stimulusFrameAndBadframe : Obligations.StimulusFrameAndBadframe := by
  intro d2 d3 mh ml e
  have hvalid := frameValid_complete d2 d3 mh ml e
  refine ⟨⟨_, rfl, hvalid, rfl, rfl, rfl, rfl, rfl⟩,
    ⟨#v[0x09#8, 0x94#8, d2, d3, mh, ml, e, stimulusChecksum d2 d3 mh ml e + 1#8], rfl, rfl, ?bad⟩⟩
  case bad =>
    have hne : stimulusChecksum d2 d3 mh ml e + 1#8 ≠ stimulusChecksum d2 d3 mh ml e := by simp
    exact Bool.eq_false_iff.mpr fun h => hne (byte_unique_of_valid (k := 7) (by decide) hvalid h)

/-! ### The rows of format CIV11 (R76) -/

/-- A row whose match and mask stand in the three control bits reads those bits alone. -/
theorem control_row_applies (p m : BitVec 3) (v : Civ) :
    Row.applies ⟨11, p.toNat <<< 8, m.toNat <<< 8⟩ v.toNat = (v.extractLsb' 8 3 &&& m == p) := by
  have hmask : v.toNat &&& m.toNat <<< 8 = (v.extractLsb' 8 3 &&& m).toNat <<< 8 := by
    apply Nat.eq_of_testBit_eq
    intro k
    simp only [Nat.testBit_and, Nat.testBit_shiftLeft, BitVec.testBit_toNat, BitVec.getLsbD_and]
    by_cases hk : 8 ≤ k ∧ k - 8 < 3
    case pos => simp [hk]
    case neg =>
      have hm : (decide (8 ≤ k) && m.getLsbD (k - 8)) = false := by
        simp only [Bool.and_eq_false_imp, decide_eq_true_eq]
        exact fun h => BitVec.getLsbD_of_ge _ _ (by omega)
      rw [hm, Bool.and_false, Bool.and_left_comm, hm, Bool.and_false]
  have hinj (a b : BitVec 3) : a.toNat <<< 8 = b.toNat <<< 8 ↔ a = b := by
    rw [Nat.shiftLeft_eq, Nat.shiftLeft_eq, Nat.mul_left_inj (by decide), BitVec.toNat_inj]
  rw [Row.applies, hmask, Bool.eq_iff_iff, beq_iff_eq, beq_iff_eq, hinj]

/-- The row the three control bits name (R76). -/
def rowOfControl (c : BitVec 3) : Row :=
  match c.getLsbD 2, c.getLsbD 1, c.getLsbD 0 with
  | true, _, _ => ⟨11, 0x400, 0x400⟩
  | false, false, false => ⟨11, 0x000, 0x700⟩
  | false, false, true => ⟨11, 0x100, 0x700⟩
  | false, true, false => ⟨11, 0x200, 0x700⟩
  | false, true, true => ⟨11, 0x300, 0x700⟩

theorem rowOf_decodeCiv (v : Civ) : rowOf (decodeCiv v) = rowOfControl (v.extractLsb' 8 3) := by
  rw [decodeCiv, rowOfControl, Synchronizer.civRst_eq_control, Synchronizer.civInValid_eq_control,
    Synchronizer.civOutReady_eq_control]
  generalize v.extractLsb' 8 3 = c
  cases c.getLsbD 2
  case true => rfl
  case false => cases c.getLsbD 1 <;> cases c.getLsbD 0 <;> rfl

/-- A row in the control bits applies exactly where the command is the row's, if it names itself so. -/
theorem command_row_applies_iff {r : Row} {p m : BitVec 3}
    (hrow : r = ⟨11, p.toNat <<< 8, m.toNat <<< 8⟩)
    (hself : ∀ c : BitVec 3, (c &&& m == p) = true ↔ r = rowOfControl c) (v : Civ) :
    r.applies v.toNat = true ↔ r = rowOf (decodeCiv v) := by
  rw [rowOf_decodeCiv, ← hself, hrow, control_row_applies]

/-- Settles O4: the control bits give the command by the decoder's four equations, and each row of the
format tests them. -/
theorem cycleVectorSelectsExactlyOneCommand : Obligations.CycleVectorSelectsExactlyOneCommand := by
  intro v
  refine ⟨fun h => ?rst, fun h => ?nop, fun h => ?pop, fun h => ?push, fun h => ?pushpop,
    fun i hbits => ?rows⟩
  case rst => exact congrArg _ (decodeCiv_rst h)
  case nop =>
    obtain ⟨hr, hi, ho⟩ := Synchronizer.nop_controls h
    exact congrArg _ (decodeCiv_nop hr hi ho)
  case pop =>
    obtain ⟨hr, hi, ho⟩ := Synchronizer.pop_controls h
    exact congrArg _ (decodeCiv_pop hr hi ho)
  case push =>
    obtain ⟨hr, hi, ho⟩ := push_controls h
    exact congrArg _ (decodeCiv_push hr hi ho)
  case pushpop =>
    obtain ⟨hr, hi, ho⟩ := pushpop_controls h
    exact congrArg _ (decodeCiv_pushpop hr hi ho)
  case rows =>
    cases i with
    | rst => exact command_row_applies_iff (p := 0b100#3) (m := 0b100#3) rfl (by decide) v
    | nop => exact command_row_applies_iff (p := 0b000#3) (m := 0b111#3) rfl (by decide) v
    | pop => exact command_row_applies_iff (p := 0b001#3) (m := 0b111#3) rfl (by decide) v
    | push b => exact command_row_applies_iff (p := 0b010#3) (m := 0b111#3) rfl (by decide) v
    | pushpop b => exact command_row_applies_iff (p := 0b011#3) (m := 0b111#3) rfl (by decide) v
    | frame | stall | accumReady | accumEmpty | hitReady | hitEmpty | missReady | missEmpty
    | deliver => exact absurd hbits (by simp [rowOf])

/-! ### The rows of format SEL6 (R77), and words written out -/

/-- Settles O5, row by row over the 64 selection vectors. -/
theorem selectionVectorSelectsByItsRows : Obligations.SelectionVectorSelectsByItsRows := by
  unfold Obligations.SelectionVectorSelectsByItsRows
  decide

/-- Settles O6: eight closed words, decoded by computation. -/
theorem writtenOutWordsDecode : Obligations.WrittenOutWordsDecode := by
  unfold Obligations.WrittenOutWordsDecode
  decide

end Sys2Proof.Proofs.Encoding

/-! PROOFS. The stream as a list of bytes: the scan of R59, what it emits and what it leaves (R60), and
the source's algorithm (R120). -/

namespace Sys2Proof.Proofs.Scan

open Sys2Proof Sys2Proof.Machine

/-! ### The scan of R59 over a stream that grows -/

theorem firstEight_length {S : List Byte} {w : Frame} (h : firstEight S = some w) :
    8 ≤ S.length := by
  by_contra hlt
  rw [firstEight_eq_none.mpr (by omega)] at h
  cases h

/-- Fewer than eight bytes are left as they are (R60). -/
theorem scan_short (i : Nat) {S : List Byte} (h : S.length < 8) : scan 0 i S = ([], S) := by
  cases S with
  | nil => rfl
  | cons b S => exact scan_stop i (firstEight_eq_none.mpr h)

/-- Bytes skipped to the end of the stream leave nothing (R59). -/
theorem scan_skip_all {k : Nat} (i : Nat) {S : List Byte} (h : S.length ≤ k) :
    scan k i S = ([], []) := by
  induction S generalizing k i with
  | nil => simp [scan]
  | cons b S ih =>
    cases k with
    | zero => simp at h
    | succ k => rw [scan_skip, ih (i + 1) (by simpa using h)]

/-- Eight bytes that form a frame are emitted, and none is left (R59). -/
theorem scan_frame (i : Nat) {w : Frame} (h : frameValid w = true) :
    scan 0 i w.toList = ([(i, w)], []) := by
  have hw := firstEight_toList w
  rw [frame_toList] at hw ⊢
  rw [scan_emit i hw h, scan_skip_all (k := 7) _ (by simp)]

/-- Of eight bytes that form no frame the first is discarded (R59). -/
theorem scan_not_frame (i : Nat) {w : Frame} (h : frameValid w = false) :
    scan 0 i w.toList = ([], w.toList.tail) := by
  have hw := firstEight_toList w
  rw [frame_toList] at hw ⊢
  rw [scan_discard i hw h, List.tail_cons, scan_short _ (by simp)]

/-- Induction along the scan: each byte is skipped, stops the scan, or starts a window that is emitted or
of which it is discarded (R59). -/
theorem scan_induction {motive : Nat → Nat → List Byte → Prop}
    (nil : ∀ k i, motive k i [])
    (skip : ∀ k i b S, motive k (i + 1) S → motive (k + 1) i (b :: S))
    (stop : ∀ i b S, firstEight (b :: S) = none → motive 0 i (b :: S))
    (emit : ∀ i b S w, firstEight (b :: S) = some w → frameValid w = true →
      motive 7 (i + 1) S → motive 0 i (b :: S))
    (discard : ∀ i b S w, firstEight (b :: S) = some w → frameValid w = false →
      motive 0 (i + 1) S → motive 0 i (b :: S))
    (k i : Nat) (S : List Byte) : motive k i S := by
  induction S generalizing k i with
  | nil => exact nil k i
  | cons b S ih =>
    cases k with
    | succ k => exact skip k i b S (ih k (i + 1))
    | zero =>
      cases hw : firstEight (b :: S) with
      | none => exact stop i b S hw
      | some w =>
        cases hv : frameValid w with
        | true => exact emit i b S w hw hv (ih 7 (i + 1))
        | false => exact discard i b S w hw hv (ih 0 (i + 1))

/-- The scan of a longer stream goes on from the bytes the scan of its first part left, at their offset:
R59's scan needs no history but those bytes. -/
theorem scan_append {k : Nat} (i : Nat) {S : List Byte} (T : List Byte) (hk : k ≤ S.length) :
    scan k i (S ++ T) =
      ((scan k i S).1 ++ (scan 0 (i + S.length - (scan k i S).2.length) ((scan k i S).2 ++ T)).1,
        (scan 0 (i + S.length - (scan k i S).2.length) ((scan k i S).2 ++ T)).2) := by
  have hoffset (i : Nat) (b : Byte) (S : List Byte) (n : Nat) :
      i + (b :: S).length - n = i + 1 + S.length - n := by
    rw [List.length_cons]; omega
  induction k, i, S using scan_induction with
  | nil k i =>
    obtain rfl : k = 0 := by simpa using hk
    simp [scan_short]
  | skip k i b S ih =>
    rw [List.cons_append, scan_skip, scan_skip, hoffset, ih (by simpa using hk)]
  | stop i b S hw => simp [scan_stop i hw]
  | emit i b S w hw hv ih =>
    have hw' : firstEight (b :: (S ++ T)) = some w := firstEight_append hw T
    have hlen := firstEight_length hw
    rw [List.length_cons] at hlen
    rw [List.cons_append, scan_emit i hw hv, scan_emit i hw' hv, hoffset, ih (by omega)]
    rfl
  | discard i b S w hw hv ih =>
    have hw' : firstEight (b :: (S ++ T)) = some w := firstEight_append hw T
    rw [List.cons_append, scan_discard i hw hv, scan_discard i hw' hv, hoffset, ih (by omega)]

theorem framesOf_append (S T : List Byte) :
    framesOf (S ++ T) =
      framesOf S ++ (scan 0 (S.length - (unclassified S).length) (unclassified S ++ T)).1 := by
  rw [framesOf, scan_append 0 T (Nat.zero_le _), Nat.zero_add]
  rfl

theorem unclassified_append (S T : List Byte) :
    unclassified (S ++ T) =
      (scan 0 (S.length - (unclassified S).length) (unclassified S ++ T)).2 := by
  rw [unclassified, scan_append 0 T (Nat.zero_le _), Nat.zero_add]
  rfl

/-- The bytes the scan leaves end the stream (R60). -/
theorem scan_rest_suffix (k i : Nat) (S : List Byte) : (scan k i S).2 <:+ S := by
  induction k, i, S using scan_induction with
  | nil k i => simp [scan]
  | skip k i b S ih => exact ih.trans (List.suffix_cons b S)
  | stop i b S hw => rw [scan_stop i hw]
  | emit i b S w hw hv ih =>
    rw [scan_emit i hw hv]
    exact ih.trans (List.suffix_cons b S)
  | discard i b S w hw hv ih =>
    rw [scan_discard i hw hv]
    exact ih.trans (List.suffix_cons b S)

/-! ### What the scan emits -/

/-- `w` is a valid window of the stream `S`, which starts at offset `i`, and its own offset is `j`. -/
def ValidWindowAt (i : Nat) (S : List Byte) (j : Nat) (w : Frame) : Prop :=
  i ≤ j ∧ firstEight (S.drop (j - i)) = some w ∧ frameValid w = true

theorem validWindowAt_length {i j : Nat} {S : List Byte} {w : Frame} (h : ValidWindowAt i S j w) :
    j - i + 8 ≤ S.length := by
  obtain ⟨-, hwin, -⟩ := h
  have hlen := firstEight_length hwin
  rw [List.length_drop] at hlen
  omega

theorem validWindowAt_self {i : Nat} {S : List Byte} {w : Frame} :
    ValidWindowAt i S i w ↔ firstEight S = some w ∧ frameValid w = true := by
  simp [ValidWindowAt]

/-- Past its first byte a stream has the windows of the rest. -/
theorem validWindowAt_cons {i j : Nat} {b : Byte} {S : List Byte} {w : Frame} (h : i + 1 ≤ j) :
    ValidWindowAt i (b :: S) j w ↔ ValidWindowAt (i + 1) S j w := by
  have hdrop : (b :: S).drop (j - i) = S.drop (j - (i + 1)) := by
    rw [show j - i = j - (i + 1) + 1 by omega, List.drop_succ_cons]
  simp [ValidWindowAt, hdrop, h, Nat.le_of_succ_le h]

/-- A frame the scan emits lies past the skipped bytes, and is a valid window of the stream (R59). -/
theorem scan_mem {k i j : Nat} {S : List Byte} {w : Frame} (h : (j, w) ∈ (scan k i S).1) :
    i + k ≤ j ∧ ValidWindowAt i S j w := by
  induction k, i, S using scan_induction with
  | nil k i => simp [scan] at h
  | skip k i b S ih =>
    obtain ⟨hle, hwindow⟩ := ih h
    exact ⟨by omega, (validWindowAt_cons hwindow.1).mpr hwindow⟩
  | stop i b S hw => simp [scan_stop i hw] at h
  | emit i b S w' hw hv ih =>
    rw [scan_emit i hw hv, List.mem_cons] at h
    rcases h with hhead | htail
    · obtain ⟨rfl, rfl⟩ := Prod.mk.inj hhead
      exact ⟨Nat.le_refl _, validWindowAt_self.mpr ⟨hw, hv⟩⟩
    · obtain ⟨hle, hwindow⟩ := ih htail
      exact ⟨by omega, (validWindowAt_cons hwindow.1).mpr hwindow⟩
  | discard i b S w' hw hv ih =>
    rw [scan_discard i hw hv] at h
    obtain ⟨hle, hwindow⟩ := ih h
    exact ⟨by omega, (validWindowAt_cons hwindow.1).mpr hwindow⟩

/-- The frames the scan emits do not overlap (R59). -/
theorem scan_pairwise (k i : Nat) (S : List Byte) :
    (scan k i S).1.Pairwise (fun a b => a.1 + 8 ≤ b.1) := by
  induction k, i, S using scan_induction with
  | nil k i => simp [scan]
  | skip k i b S ih => exact ih
  | stop i b S hw => simp [scan_stop i hw]
  | emit i b S w hw hv ih =>
    rw [scan_emit i hw hv]
    exact List.pairwise_cons.mpr ⟨fun _ hmem => (scan_mem hmem).1, ih⟩
  | discard i b S w hw hv ih =>
    rw [scan_discard i hw hv]
    exact ih

/-- The window `w` at offset `j` is among the frames, or starts inside one of them (R121, as 90_conflicts
C1 qualifies it). -/
def EmittedOrCovered (frames : List (Nat × Frame)) (j : Nat) (w : Frame) : Prop :=
  (j, w) ∈ frames ∨ ∃ i w', (i, w') ∈ frames ∧ i < j ∧ j ≤ i + 7

theorem emittedOrCovered_cons {frames : List (Nat × Frame)} {j : Nat} {w : Frame}
    (f : Nat × Frame) (h : EmittedOrCovered frames j w) : EmittedOrCovered (f :: frames) j w := by
  rcases h with hmem | ⟨i, w', hmem, hin⟩
  · exact .inl (List.mem_cons_of_mem _ hmem)
  · exact .inr ⟨i, w', List.mem_cons_of_mem _ hmem, hin⟩

/-- A valid window past the skipped bytes is emitted, or starts inside a frame that is (R121). -/
theorem scan_complete {k i j : Nat} {S : List Byte} {w : Frame} (h : ValidWindowAt i S j w)
    (hk : i + k ≤ j) : EmittedOrCovered (scan k i S).1 j w := by
  induction k, i, S using scan_induction with
  | nil k i => simpa using validWindowAt_length h
  | skip k i b S ih => exact ih ((validWindowAt_cons (by omega)).mp h) (by omega)
  | stop i b S hw =>
    have hlen := validWindowAt_length h
    have hshort := firstEight_eq_none.mp hw
    omega
  | emit i b S w' hw hv ih =>
    rw [scan_emit i hw hv]
    rcases Nat.lt_or_ge j (i + 8) with hlt | hge
    · rcases Nat.eq_or_lt_of_le hk with rfl | hpos
      · obtain ⟨hself, -⟩ := validWindowAt_self.mp h
        obtain rfl : w' = w := Option.some.inj (hw.symm.trans hself)
        exact .inl List.mem_cons_self
      · exact .inr ⟨i, w', List.mem_cons_self, hpos, by omega⟩
    · exact emittedOrCovered_cons _ (ih ((validWindowAt_cons (by omega)).mp h) (by omega))
  | discard i b S w' hw hv ih =>
    rw [scan_discard i hw hv]
    rcases Nat.eq_or_lt_of_le hk with rfl | hpos
    · obtain ⟨hself, hvalid⟩ := validWindowAt_self.mp h
      obtain rfl : w' = w := Option.some.inj (hw.symm.trans hself)
      exact absurd hvalid (by simp [hv])
    · exact ih ((validWindowAt_cons hpos).mp h) hpos

/-- In the whole stream the offset of a window is its position. -/
theorem validWindowAt_zero {S : List Byte} {j : Nat} {w : Frame} :
    ValidWindowAt 0 S j w ↔ firstEight (S.drop j) = some w ∧ frameValid w = true := by
  simp [ValidWindowAt]

/-- A stream with no valid window has no frames (R123). -/
theorem framesOf_of_noFrame {S : List Byte} (h : NoFrameBefore S.length S) : framesOf S = [] := by
  rw [List.eq_nil_iff_forall_not_mem]
  rintro ⟨j, w⟩ hmem
  obtain ⟨-, hwindow⟩ := scan_mem hmem
  have hlen := validWindowAt_length hwindow
  obtain ⟨hwin, hvalid⟩ := validWindowAt_zero.mp hwindow
  simp [h j w (by omega) hwin] at hvalid

/-! ### The source's algorithm (R120) -/

theorem sourceFrames_short {window : List Byte} {b : Byte} (S : List Byte)
    (h : firstEight (window ++ [b]) = none) :
    sourceFrames window (b :: S) = sourceFrames (window ++ [b]) S := by
  simp [sourceFrames, h]

theorem sourceFrames_frame {window : List Byte} {b : Byte} {w : Frame} (S : List Byte)
    (h : firstEight (window ++ [b]) = some w) (hv : frameValid w = true) :
    sourceFrames window (b :: S) = w :: sourceFrames [] S := by
  simp [sourceFrames, h, hv]

theorem sourceFrames_not_frame {window : List Byte} {b : Byte} {w : Frame} (S : List Byte)
    (h : firstEight (window ++ [b]) = some w) (hv : frameValid w = false) :
    sourceFrames window (b :: S) = sourceFrames (window ++ [b]).tail S := by
  simp [sourceFrames, h, hv]

/-- A list of exactly eight bytes is the frame its first eight bytes are. -/
theorem toList_of_firstEight {L : List Byte} {w : Frame} (h : firstEight L = some w)
    (hlen : L.length ≤ 8) : L = w.toList := by
  have height : L.length = 8 := Nat.le_antisymm hlen (firstEight_length h)
  obtain ⟨v, rfl⟩ : ∃ v : Frame, L = v.toList := ⟨⟨L.toArray, by simpa using height⟩, by simp⟩
  rw [Option.some.inj ((firstEight_toList v).symm.trans h)]

/-- The source's window is the scan's unclassified bytes: what it returns from a window of at most seven
bytes on is what the scan emits from the first of them on. -/
theorem sourceFrames_eq_scan {window : List Byte} (i : Nat) (S : List Byte)
    (h : window.length ≤ 7) :
    sourceFrames window S = (scan 0 i (window ++ S)).1.map Prod.snd := by
  induction S generalizing window i with
  | nil => simp [sourceFrames, scan_short i (S := window) (by omega)]
  | cons b S ih =>
    rw [List.append_cons]
    cases hw : firstEight (window ++ [b]) with
    | none =>
      have hshort := firstEight_eq_none.mp hw
      rw [sourceFrames_short S hw, ih i (by omega)]
    | some w =>
      have height : window ++ [b] = w.toList :=
        toList_of_firstEight hw (by simpa using Nat.succ_le_succ h)
      cases hv : frameValid w with
      | true =>
        rw [sourceFrames_frame S hw hv, height, scan_append i S (Nat.zero_le _), scan_frame i hv,
          ih (window := []) _ (Nat.zero_le _)]
        rfl
      | false =>
        rw [sourceFrames_not_frame S hw hv, height, scan_append i S (Nat.zero_le _),
          scan_not_frame i hv, ih _ (by simp)]
        rfl

/-! ### One more byte of the stream, as the synchronizer takes it (R113, R115, R116) -/

section OneByte

variable {S : List Byte} {b : Byte} {w : Frame}

theorem scan_byte_short (h : (unclassified S).length < 7) :
    framesOf (S ++ [b]) = framesOf S ∧ unclassified (S ++ [b]) = unclassified S ++ [b] := by
  rw [framesOf_append, unclassified_append, scan_short, List.append_nil]
  · exact ⟨rfl, rfl⟩
  · rw [List.length_append]
    exact Nat.succ_lt_succ h

theorem scan_byte_frame (h : unclassified S ++ [b] = w.toList) (hv : frameValid w = true) :
    framesOf (S ++ [b]) = framesOf S ++ [(S.length - 7, w)] ∧ unclassified (S ++ [b]) = [] := by
  have hseven : (unclassified S).length = 7 := by simpa using congrArg List.length h
  rw [framesOf_append, unclassified_append, h, scan_frame _ hv, hseven]
  exact ⟨rfl, rfl⟩

theorem scan_byte_not_frame (h : unclassified S ++ [b] = w.toList) (hv : frameValid w = false) :
    framesOf (S ++ [b]) = framesOf S ∧ unclassified (S ++ [b]) = (unclassified S ++ [b]).tail := by
  rw [framesOf_append, unclassified_append, h, scan_not_frame _ hv, List.append_nil]
  exact ⟨rfl, rfl⟩

end OneByte

end Sys2Proof.Proofs.Scan

/-! PROOFS. Runs of clock edges: the invariant of the stream (20_memory R58 to R60), the properties of the
frames emitted (40_synchronizer R120 to R123), and the reset edge (70_reset_and_hazards R230, R231). -/

namespace Sys2Proof.Proofs.Runs

open Sys2Proof Sys2Proof.Machine Sys2Proof.Proofs.Scan

/-! ### One edge of the block with its observer (R109, R51, R58) -/

theorem edge_eq (v : Civ) (s : State) (o : Observer) :
    edge v (s, o) = (nextState (present v s), observe (present v s) o) :=
  edge_of_exec o (Synchronizer.commandsComputeTheNextStateFunction v s)

theorem observe_of_rst {s : State} (h : civRst s.civ = true) (o : Observer) :
    observe s o = Observer.empty := by
  simp [observe, h]

theorem observe_of_inFire {s : State} (hr : civRst s.civ = false) (hf : inFire s = true)
    (o : Observer) :
    observe s o =
      { stream := o.stream ++ [inData s]
        emitted := o.emitted ++ (if hit s then [(o.stream.length - 7, candidate8 s)] else [])
        delivered := o.delivered ++ (if outFire s then [s.fr] else []) } := by
  simp [observe, hr, hf]

/-- Where a byte is accepted, the held frame, if there is one, is taken (R106). -/
theorem outFire_of_inFire {s : State} (h : inFire s = true) : outFire s = s.ov := by
  have := Synchronizer.not_held_of_inFire h
  revert this
  simp only [outFire]
  cases s.ov <;> simp

theorem civRst_of_inFire {s : State} (h : inFire s = true) : civRst s.civ = false := by
  cases hr : civRst s.civ
  case false => rfl
  case true => simp [Diagnostics.inFire_of_rst hr] at h

/-- Without a byte accepted, the held frame is delivered or stays held (R58). -/
theorem streamInv_of_not_inFire {c : State} {o : Observer} (hr : civRst c.civ = false)
    (hf : inFire c = false) (h : StreamInv (c, o)) :
    StreamInv (nextState c, observe c o) := by
  obtain ⟨hemit, hpend, hheld⟩ := h
  rw [Synchronizer.nextState_of_not_inFire hr hf, Synchronizer.observe_of_not_inFire hr hf]
  refine ⟨hemit, hpend, ?_⟩
  simp only [hheld, outFire, deliver_ov, deliver_fr]
  rcases Bool.eq_false_or_eq_true c.ov with hov | hov <;>
    rcases Bool.eq_false_or_eq_true (civOutReady c.civ) with ho | ho <;> simp [hov, ho]

/-- An accepted byte: the input side's three cases are the scan's (R59, R113, R115, R116). -/
theorem streamInv_of_inFire {c : State} {o : Observer} (hf : inFire c = true)
    (h : StreamInv (c, o)) : StreamInv (nextState c, observe c o) := by
  obtain ⟨hemit, hpend, hheld⟩ := h
  dsimp only at hheld
  have hr := civRst_of_inFire hf
  have hpend' : pending (deliver false c) = unclassified o.stream := hpend
  have hwindow (hcnt : c.cnt = 7#3) :
      unclassified o.stream ++ [inData c] = (candidate8 c).toList := by
    rw [Synchronizer.candidate8_toList hcnt, candidate, ← hpend']
    rfl
  rw [Synchronizer.nextState_of_inFire hr hf, observe_of_inFire hr hf, outFire_of_inFire hf]
  rcases consume_cases (inData c) (deliver false c) with
    ⟨hcnt, hc⟩ | ⟨hcnt, hv, hc⟩ | ⟨hcnt, hv, hc⟩ <;> rw [hc]
  case inl =>
    have hhit : hit c = false := Synchronizer.hit_of_not_full (Synchronizer.full_eq_false.mpr hcnt)
    have hshort : (unclassified o.stream).length < 7 := by
      rw [← hpend', pending_length]
      exact (cnt_toNat_lt_iff _).mpr hcnt
    obtain ⟨hframes, hrest⟩ := scan_byte_short (b := inData c) hshort
    refine ⟨?_, ?_, ?_⟩
    · simpa [hhit, hframes] using hemit
    · rw [pending_accum _ _ hcnt, hrest, hpend']
    · simpa [hhit] using hheld
  case inr.inl =>
    have hhit : hit c = true :=
      Synchronizer.hit_eq_true.mpr ⟨hf, Synchronizer.full_eq_true.mpr hcnt, hv⟩
    obtain ⟨hframes, hrest⟩ := scan_byte_frame (hwindow hcnt) hv
    refine ⟨?_, ?_, ?_⟩
    · simpa [hhit, hframes] using hemit
    · rw [pending_of_cnt_eq_zero (hitWith_cnt _ _), hrest]
    · simp [hhit, hheld, candidate8]
  case inr.inr =>
    have hhit : hit c = false := Bool.eq_false_iff.mpr fun hhit => by
      obtain ⟨-, -, hvalid⟩ := Synchronizer.hit_eq_true.mp hhit
      exact Bool.false_ne_true (hv.symm.trans hvalid)
    obtain ⟨hframes, hrest⟩ := scan_byte_not_frame (hwindow hcnt) hv
    refine ⟨?_, ?_, ?_⟩
    · simpa [hhit, hframes] using hemit
    · rw [pending_slide _ _ hcnt, hrest, hpend']
    · simpa [hhit] using hheld

/-- Settles O45: nothing is pending, emitted, delivered or held. -/
theorem resetHasStreamInv : Obligations.ResetHasStreamInv := ⟨rfl, rfl, rfl⟩

/-- The cycle `c` keeps the invariant of the stream, whatever vector it presents. -/
theorem streamInv_next {c : State} {o : Observer} (h : StreamInv (c, o)) :
    StreamInv (nextState c, observe c o) := by
  cases hr : civRst c.civ
  case true =>
    rw [Synchronizer.nextState_of_rst hr, observe_of_rst hr]
    exact resetHasStreamInv
  case false =>
    cases hf : inFire c
    case false => exact streamInv_of_not_inFire hr hf h
    case true => exact streamInv_of_inFire hf h

/-- Taking the environment's move changes no register (R27). -/
theorem sameRegisters_nextInput (s : State) : SameRegisters s (nextInput s).2 := by
  cases hin : s.inputs with
  | nil => rw [nextInput_nil hin]; exact ⟨rfl, rfl, rfl, rfl⟩
  | cons i rest => rw [nextInput_cons hin]; exact ⟨rfl, rfl, rfl, rfl⟩

/-- The invariant of the stream is about the registers and the observer alone. -/
theorem streamInv_of_sameRegisters {s t : State} {o : Observer} (h : SameRegisters s t)
    (hs : StreamInv (s, o)) : StreamInv (t, o) := by
  obtain ⟨hcnt, hwin, hov, hfr⟩ := h
  simpa only [StreamInv, pending, hcnt, hwin, hov, hfr] using hs

/-- Settles O46: the step is the edge of the vector it takes, and `streamInv_next` is that edge. -/
theorem stepKeepsStreamInv : Obligations.StepKeepsStreamInv := by
  intro s t u o v hin hstep hs
  rw [Exceptions.step_of_vector hin, Synchronizer.commandsComputeTheNextStateFunction v u] at hstep
  obtain rfl := Host.Outcome.next.inj hstep
  have hu : SameRegisters s u := by simpa [hin] using sameRegisters_nextInput s
  exact streamInv_next (c := present v u) (streamInv_of_sameRegisters hu hs)

/-! ### Runs from reset -/

/-- What every edge keeps, every run keeps. -/
theorem runEdges_keeps {P : State × Observer → Prop} (hedge : ∀ v p, P p → P (edge v p))
    (vs : List Civ) {p : State × Observer} (hp : P p) : P (runEdges vs p) := by
  induction vs generalizing p with
  | nil => exact hp
  | cons v vs ih => exact ih (hedge v p hp)

theorem streamInv_edge (v : Civ) (p : State × Observer) (h : StreamInv p) :
    StreamInv (edge v p) := by
  rw [edge_eq]
  exact streamInv_next (c := present v p.1) h

theorem streamInv_run (vs : List Civ) : StreamInv (runEdges vs (State.reset, Observer.empty)) :=
  runEdges_keeps streamInv_edge vs resetHasStreamInv

/-- Settles O47: `streamInv_run`, with the scan's rest at most seven bytes and a last part of its
stream. -/
theorem runEmitsExactlyTheFramesOfTheStream : Obligations.RunEmitsExactlyTheFramesOfTheStream := by
  intro vs
  obtain ⟨hemit, hpend, hheld⟩ := streamInv_run vs
  refine ⟨hemit, ?delivered, hpend, ?length, ?ending⟩
  case delivered => exact ⟨_, by rw [← hemit, hheld]⟩
  case length => exact (pending_length _).trans_le (cnt_toNat_le _)
  case ending =>
    rw [hpend]
    exact scan_rest_suffix 0 0 _

/-- Settles O48: the emitted frames are the scan's, which are the source's from an empty window. -/
theorem runAgreesWithTheSourceAlgorithm : Obligations.RunAgreesWithTheSourceAlgorithm := by
  intro vs
  obtain ⟨hemit, -, -⟩ := streamInv_run vs
  simp only [hemit, sourceFrames_eq_scan (window := []) 0 _ (Nat.zero_le _), framesOf,
    List.nil_append]

/-- Settles O49: the frames of the scan are valid windows, eight apart. -/
theorem emittedFramesAreDisjointValidWindows :
    Obligations.EmittedFramesAreDisjointValidWindows := by
  intro vs
  obtain ⟨hemit, -, -⟩ := streamInv_run vs
  refine ⟨fun i w hmem => ?window, ?disjoint⟩
  case window =>
    rw [hemit] at hmem
    obtain ⟨-, hwindow⟩ := scan_mem hmem
    have hlen := validWindowAt_length hwindow
    obtain ⟨hwin, hvalid⟩ := validWindowAt_zero.mp hwindow
    exact ⟨hwin, hvalid, by omega⟩
  case disjoint =>
    rw [hemit]
    exact scan_pairwise 0 0 _

/-- Settles O50: `scan_complete` from the stream's start. -/
theorem everyValidWindowOutsideAFrameIsEmitted :
    Obligations.EveryValidWindowOutsideAFrameIsEmitted := by
  intro vs p i w hwin hvalid
  obtain ⟨hemit, -, -⟩ := streamInv_run vs
  rw [hemit]
  exact scan_complete (validWindowAt_zero.mpr ⟨hwin, hvalid⟩) (by omega)

/-- With nothing emitted no frame is held, and none was delivered (R58). -/
theorem nothing_held_of_nothing_emitted {p : State × Observer} (h : StreamInv p)
    (hnone : p.2.emitted = []) : p.1.ov = false ∧ p.2.delivered = [] := by
  obtain ⟨-, -, hheld⟩ := h
  rw [hnone, List.map_nil, eq_comm, List.append_eq_nil_iff] at hheld
  obtain ⟨hdelivered, hov⟩ := hheld
  exact ⟨by simpa using hov, hdelivered⟩

/-- Settles O52: without a valid window the scan emits nothing. -/
theorem noValidWindowNoFrame : Obligations.NoValidWindowNoFrame := by
  intro vs p hno
  have hinv := streamInv_run vs
  have hnone : p.2.emitted = [] := hinv.1.trans (framesOf_of_noFrame hno)
  exact ⟨hnone, (nothing_held_of_nothing_emitted hinv hnone).1⟩

/-! ### A ready consumer (R118, R245) -/

theorem inFire_pushpop (b : Byte) (s : State) : inFire (present (pushpopVector b) s) = true := by
  simp [inFire, inReady, pushpopVector]

theorem edge_pushpop_stream (b : Byte) (s : State) (o : Observer) :
    (edge (pushpopVector b) (s, o)).2.stream = o.stream ++ [b] := by
  have hf := inFire_pushpop b s
  rw [edge_eq, observe_of_inFire (civRst_of_inFire hf) hf]
  simp [inData, pushpopVector]

theorem runEdges_pushpop_stream (bs : List Byte) (p : State × Observer) :
    (runEdges (bs.map pushpopVector) p).2.stream = p.2.stream ++ bs := by
  induction bs generalizing p with
  | nil => simp
  | cons b bs ih =>
    rw [List.map_cons, runEdges_cons, ih, edge_pushpop_stream, List.append_assoc]
    rfl

/-- Settles O54: each PUSHPOP edge appends its byte. -/
theorem readyConsumerNeverStalls : Obligations.ReadyConsumerNeverStalls := fun bs s o =>
  ⟨runEdges_pushpop_stream bs (s, o), List.length_map _⟩

/-- The scan passes over noise to the frame behind it (R121). -/
theorem scan_noise (i : Nat) (noise : List Byte) {F : Frame} (hF : frameValid F = true)
    (h : NoFrameBefore noise.length (noise ++ F.toList)) :
    scan 0 i (noise ++ F.toList) = ([(i + noise.length, F)], []) := by
  induction noise generalizing i with
  | nil => exact scan_frame i hF
  | cons b noise ih =>
    have htail : NoFrameBefore noise.length (noise ++ F.toList) := fun j w hj hwin =>
      h (j + 1) w (Nat.succ_lt_succ hj) hwin
    cases hw : firstEight (b :: (noise ++ F.toList)) with
    | none =>
      have hshort := firstEight_eq_none.mp hw
      simp only [List.length_cons, List.length_append, Vector.length_toList] at hshort
      omega
    | some w =>
      rw [List.cons_append, scan_discard i hw (h 0 w (Nat.succ_pos _) hw), ih (i + 1) htail,
        List.length_cons, Nat.add_right_comm, Nat.add_assoc]

/-- A stream with noise and seven bytes behind it has no valid window, if none starts in the noise. -/
theorem noFrameBefore_length {n : Nat} {S T : List Byte} (h : NoFrameBefore n (S ++ T))
    (hlen : S.length ≤ n + 7) : NoFrameBefore S.length S := by
  intro j w _ hwin
  have height := firstEight_length hwin
  rw [List.length_drop] at height
  refine h j w (by omega) ?_
  rw [List.drop_append_of_le_length (by omega)]
  exact firstEight_append hwin T

/-- A PUSHPOP edge on a block that holds nothing delivers nothing (R118). -/
theorem edge_pushpop_delivered {s : State} (h : s.ov = false) (b : Byte) (o : Observer) :
    (edge (pushpopVector b) (s, o)).2.delivered = o.delivered := by
  have hf := inFire_pushpop b s
  rw [edge_eq, observe_of_inFire (civRst_of_inFire hf) hf, outFire_of_inFire hf]
  simp [h]

/-- Noise and then a frame: the frame is emitted at the noise's length, and no byte stays pending
(R121). -/
theorem run_noise_then_frame {noise : List Byte} {F : Frame} (hF : frameValid F = true)
    (h : NoFrameBefore noise.length (noise ++ F.toList)) {p : State × Observer}
    (hp : p = runEdges ((noise ++ F.toList).map pushpopVector) (State.reset, Observer.empty)) :
    p.2.emitted = [(noise.length, F)] ∧ p.1.cnt = 0#3 := by
  have hstream : p.2.stream = noise ++ F.toList := hp ▸ runEdges_pushpop_stream ..
  have hinv : StreamInv p := hp ▸ streamInv_run _
  have hscan : scan 0 0 (noise ++ F.toList) = ([(noise.length, F)], []) := by
    rw [scan_noise 0 noise hF h, Nat.zero_add]
  obtain ⟨hemit, hpend, -⟩ := hinv
  rw [hstream] at hemit hpend
  rw [framesOf, hscan] at hemit
  rw [unclassified, hscan] at hpend
  refine ⟨hemit, BitVec.eq_of_toNat_eq ?_⟩
  rw [← pending_length, hpend]
  rfl

/-- Noise and at most seven bytes behind it: nothing is emitted yet (R121, R245). -/
theorem run_noise_emits_nothing {n : Nat} {S T : List Byte} (h : NoFrameBefore n (S ++ T))
    (hlen : S.length ≤ n + 7) :
    (runEdges (S.map pushpopVector) (State.reset, Observer.empty)).2.emitted = [] := by
  obtain ⟨hemit, -, -⟩ := streamInv_run (S.map pushpopVector)
  rw [hemit, runEdges_pushpop_stream]
  exact framesOf_of_noFrame (noFrameBefore_length h hlen)

/-- The first frame emitted, at a PUSHPOP edge, is held after it: the edge had nothing to deliver
(R58, R118). -/
theorem held_after_first_emission {p : State × Observer} {b : Byte} {i : Nat} {F : Frame}
    (hp : StreamInv p) (hnone : p.2.emitted = [])
    (hfirst : (edge (pushpopVector b) p).2.emitted = [(i, F)]) :
    (edge (pushpopVector b) p).1.ov = true ∧ (edge (pushpopVector b) p).1.fr = F := by
  obtain ⟨hov, hdelivered⟩ := nothing_held_of_nothing_emitted hp hnone
  obtain ⟨-, -, hheld⟩ := streamInv_edge (pushpopVector b) p hp
  rw [hfirst, edge_pushpop_delivered hov, hdelivered] at hheld
  cases hov' : (edge (pushpopVector b) p).1.ov
  case false => simp [hov'] at hheld
  case true => exact ⟨rfl, by simpa [hov', eq_comm] using hheld⟩

/-- Settles O51: the frame is emitted at the end and nothing before its last byte, so the last edge emits
the first frame, which is then held. -/
theorem resynchronisesAfterNoise : Obligations.ResynchronisesAfterNoise := by
  intro noise F hF hno p
  obtain ⟨hemitted, hcnt⟩ := run_noise_then_frame hF hno (p := p) rfl
  have hlen : (noise ++ F.toList).length = noise.length + 8 := by simp
  obtain ⟨init, b, hsplit⟩ : ∃ init b, noise ++ F.toList = init ++ [b] :=
    ⟨_, _, (List.dropLast_append_getLast (by simp)).symm⟩
  have hp : p = edge (pushpopVector b)
      (runEdges (init.map pushpopVector) (State.reset, Observer.empty)) := by
    simp only [p, hsplit, List.map_append, runEdges_append]
    rfl
  rw [hsplit] at hno hlen ⊢
  rw [List.dropLast_concat]
  have hbefore := run_noise_emits_nothing hno (by simpa using hlen.le)
  rw [hp] at hemitted
  obtain ⟨hov, hfr⟩ := held_after_first_emission (streamInv_run _) hbefore hemitted
  rw [← hp] at hemitted hov hfr
  exact ⟨hemitted, hov, hfr, hcnt, hlen, hbefore⟩

/-! ### A reset edge (R230, R231) -/

/-- The block beside another queue and count of draws. -/
def withEnvironment (q : List Input) (d : Nat) (s : State) : State :=
  { s with inputs := q, draws := d }

/-- The registers' next values do not read the queue (R109). -/
theorem nextState_withEnvironment (q : List Input) (d : Nat) (c : State) :
    nextState (withEnvironment q d c) = withEnvironment q d (nextState c) := by
  cases hr : civRst c.civ
  case true =>
    rw [Synchronizer.nextState_of_rst hr,
      Synchronizer.nextState_of_rst (s := withEnvironment q d c) hr]
    rfl
  case false =>
    have hr' : civRst (withEnvironment q d c).civ = false := hr
    simp only [nextState, hr, hr']
    rfl

theorem present_of_sameRegisters {s t : State} (h : SameRegisters s t) (v : Civ) :
    present v s = withEnvironment s.inputs s.draws (present v t) := by
  obtain ⟨hcnt, hwin, hov, hfr⟩ := h
  simp [present, withEnvironment, ← hcnt, ← hwin, ← hov, ← hfr]

/-- Two blocks with the same registers, and the same record beside them. -/
def SameBlock (p q : State × Observer) : Prop := SameRegisters p.1 q.1 ∧ p.2 = q.2

/-- An edge reads the registers and the vector alone. -/
theorem edge_keeps_sameBlock (v : Civ) {p q : State × Observer} (h : SameBlock p q) :
    SameBlock (edge v p) (edge v q) := by
  obtain ⟨s, o⟩ := p
  obtain ⟨t, o'⟩ := q
  obtain ⟨hregs, rfl⟩ : SameRegisters s t ∧ o = o' := h
  rw [edge_eq, edge_eq, present_of_sameRegisters hregs, nextState_withEnvironment]
  exact ⟨⟨rfl, rfl, rfl, rfl⟩, rfl⟩

theorem runEdges_keeps_sameBlock (vs : List Civ) {p q : State × Observer} (h : SameBlock p q) :
    SameBlock (runEdges vs p) (runEdges vs q) := by
  induction vs generalizing p q with
  | nil => exact h
  | cons v vs ih => exact ih (edge_keeps_sameBlock v h)

/-- A reset edge leaves the registers of reset and an empty record (R110, R231). -/
theorem edge_rst_sameBlock {v : Civ} (h : civRst v = true) (p : State × Observer) :
    SameBlock (edge v p) (State.reset, Observer.empty) := by
  rw [edge_eq, Synchronizer.nextState_of_rst (s := present v p.1) h,
    observe_of_rst (s := present v p.1) h]
  exact ⟨⟨rfl, rfl, rfl, rfl⟩, rfl⟩

/-- Settles O53: after the reset edge the block is that of reset, and the edges after it keep the two
the same. -/
theorem resetEdgeForgetsThePast : Obligations.ResetEdgeForgetsThePast := by
  intro before after v s o hv
  rw [runEdges_append, runEdges_cons]
  exact runEdges_keeps_sameBlock after (edge_rst_sameBlock hv _)

end Sys2Proof.Proofs.Runs

/-! PROOFS. The invariant of the frame register (10_state R32, R33), kept by edges and by feeds. -/

namespace Sys2Proof.Proofs.FrameRegister

open Sys2Proof Sys2Proof.Machine

/-- Settles O43: `fr` is the reset value and nothing is held. -/
theorem resetHasFrameInv : Obligations.ResetHasFrameInv := ⟨.inr rfl, fun h => by simp at h⟩

theorem frameInv_deliver {s : State} (h : FrameInv s) : FrameInv (deliver false s) :=
  ⟨h.1, fun hov => by simp at hov⟩

/-- The input side writes `fr` at a hit alone, and then with a valid frame (R115). -/
theorem frameInv_consume (b : Byte) {s : State} (h : FrameInv s) : FrameInv (consume b s) := by
  rcases consume_cases b s with ⟨-, hc⟩ | ⟨-, hv, hc⟩ | ⟨-, -, hc⟩ <;> rw [hc]
  case inl => exact h
  case inr.inl => exact ⟨.inl hv, fun _ => hv⟩
  case inr.inr => exact h

theorem frameInv_feed (bs : List Byte) {s : State} (h : FrameInv s) : FrameInv (feed bs s) := by
  induction bs generalizing s with
  | nil => exact h
  | cons b bs ih => exact ih (frameInv_consume b (frameInv_deliver h))

theorem frameInv_next {c : State} (h : FrameInv c) : FrameInv (nextState c) := by
  cases hr : civRst c.civ
  case true =>
    rw [Synchronizer.nextState_of_rst hr]
    exact resetHasFrameInv
  case false =>
    cases hf : inFire c
    case true =>
      rw [Synchronizer.nextState_of_inFire hr hf]
      exact frameInv_consume _ (frameInv_deliver h)
    case false =>
      rw [Synchronizer.nextState_of_not_inFire hr hf]
      exact ⟨h.1, fun hov => h.2 (Bool.and_eq_true_iff.mp hov).1⟩

/-- A queued frame word, valid or not, feeds its eight bytes (R73, R79). -/
theorem step_of_frame_word {s t : State} {F : FrameWord} (h : nextInput s = (.frame F, t)) :
    step s = .next (feed (unpackFrame F).toList t) := by
  cases hv : frameValid (unpackFrame F)
  case false => exact Exceptions.step_of_not_frame h (Encoding.decodeFrame_of_not_valid hv)
  case true =>
    rw [Exceptions.step_of_frame h (Encoding.decodeFrame_of_valid hv), exec, execFrame,
      Encoding.frameOfFields_of_valid hv]

/-- Settles O44: a step is one edge or a feed, on registers the environment's move leaves alone. -/
theorem stepKeepsFrameInv : Obligations.StepKeepsFrameInv := by
  intro s t hs hstep
  obtain ⟨-, -, hov, hfr⟩ := Runs.sameRegisters_nextInput s
  rcases hin : nextInput s with ⟨v | F, u⟩ <;> rw [hin] at hov hfr
  all_goals have hu : FrameInv u := by simpa only [FrameInv, hov, hfr] using hs
  case vector =>
    rw [Exceptions.step_of_vector hin,
      Synchronizer.commandsComputeTheNextStateFunction v u] at hstep
    obtain rfl := Host.Outcome.next.inj hstep
    exact frameInv_next (c := present v u) hu
  case frame =>
    rw [step_of_frame_word hin] at hstep
    obtain rfl := Host.Outcome.next.inj hstep
    exact frameInv_feed _ hu

end Sys2Proof.Proofs.FrameRegister

/-! PROOFS. Cycles: the micro-operations that a cycle's selection vector selects on its two sides, and
that its command performs them and nothing else (30_encoding R77, 60_exceptions R203). -/

namespace Sys2Proof.Proofs.Cycles

open Sys2Proof Sys2Proof.Machine Sys2Proof.Proofs.Synchronizer

/-! ### Micro-operations in the cycles that select them, and in the others (R77) -/

/-- Every micro-operation is some assignment made where it is selected; STALL's is none. -/
theorem exec_microOp {i : Instr} (hi : i ∈ microOps) :
    ∃ assign, ∀ s, exec i s = .next (whenSelected i assign s) := by
  simp only [microOps, List.mem_cons, List.not_mem_nil, or_false] at hi
  rcases hi with rfl | rfl | rfl | rfl | rfl | rfl | rfl | rfl
  case inl => exact ⟨id, fun s => by simp [exec, execStall, whenSelected]⟩
  all_goals exact ⟨_, fun s => rfl⟩

/-- A micro-operation's row applies to every selection vector that selects it (R77). -/
theorem not_selects_of_not_applies :
    ∀ i ∈ microOps, ∀ sv : Sel, (rowOf i).applies sv.toNat = false → selects sv i = false := by
  decide

/-- Settles O24: where the row does not apply the micro-operation is not selected. -/
theorem unselectedMicroOpAssignsNothing : Obligations.UnselectedMicroOpAssignsNothing := by
  intro s i hi hrow
  obtain ⟨assign, hexec⟩ := exec_microOp hi
  rw [hexec, whenSelected_of_not_selects (not_selects_of_not_applies i hi _ hrow)]

/-- The micro-operations that consume a byte (R113, R115, R116). -/
def consumingOps : List Instr :=
  [.accumReady, .accumEmpty, .hitReady, .hitEmpty, .missReady, .missEmpty]

theorem consumingOps_subset_microOps : ∀ i ∈ consumingOps, i ∈ microOps := by decide

/-- Selected, each of them makes the assignment the input side has for the byte (R109). -/
theorem exec_consumingOp_of_row {i : Instr} {s : State} (hi : i ∈ consumingOps)
    (hrow : (rowOf i).applies (selVector s).toNat = true) :
    exec i s = .next (consume (inData s) s) := by
  have haccum (h : inFire s = true ∧ full s = false) :
      consume (inData s) s = accum (inData s) s :=
    consume_of_not_full _ (full_eq_false.mp h.2)
  have hhit (h : hit s = true) : consume (inData s) s = hitWith (candidate8 s) s := by
    obtain ⟨-, hfull, hv⟩ := hit_eq_true.mp h
    exact consume_of_hit _ (full_eq_true.mp hfull) hv
  have hmiss (h : inFire s = true ∧ full s = true ∧ frameValid (candidate8 s) = false) :
      consume (inData s) s = miss (inData s) s :=
    consume_of_miss _ (full_eq_true.mp h.2.1) h.2.2
  simp only [consumingOps, List.mem_cons, List.not_mem_nil, or_false] at hi
  rcases hi with rfl | rfl | rfl | rfl | rfl | rfl
  · rw [haccum ((accum_rows_iff s).mp (.inl hrow)), exec_of_row (by decide) rfl hrow]
  · rw [haccum ((accum_rows_iff s).mp (.inr hrow)), exec_of_row (by decide) rfl hrow]
  · rw [hhit ((hit_rows_iff s).mp (.inl hrow)), exec_of_row (by decide) rfl hrow]
  · rw [hhit ((hit_rows_iff s).mp (.inr hrow)), exec_of_row (by decide) rfl hrow]
  · rw [hmiss ((miss_rows_iff s).mp (.inl hrow)), exec_of_row (by decide) rfl hrow]
  · rw [hmiss ((miss_rows_iff s).mp (.inr hrow)), exec_of_row (by decide) rfl hrow]

/-! ### What a cycle selects on each side (R77) -/

theorem selInput_iff_row {i : Instr} (hi : i ∈ consumingOps) (sv : Sel) :
    selInput sv = some i ↔ (rowOf i).applies sv.toNat = true := by
  have hmem : i ∈ Instr.stall :: consumingOps := List.mem_cons_of_mem _ hi
  obtain ⟨hrows, -⟩ := Encoding.selectionVectorSelectsByItsRows sv
  exact hrows i hmem

theorem selOutput_mkSel : ∀ r v o q f k : Bool,
    selOutput (mkSel r v o q f k) = if !r && (q && o) then some .deliver else none := by decide

theorem selInput_mkSel_of_not_accepted : ∀ v o q f k : Bool, (v && (!false && (!q || o))) = false →
    selInput (mkSel false v o q f k) = none ∨ selInput (mkSel false v o q f k) = some .stall := by
  decide

/-- The output side selects DELIVER exactly where a frame is taken (R77, R114). -/
theorem selOutput_selVector {s : State} (hr : civRst s.civ = false) :
    selOutput (selVector s) = if outFire s then some .deliver else none := by
  rw [selVector, selOutput_mkSel, hr, Bool.not_false, Bool.true_and]
  rfl

theorem exec_deliver_of_outFire {s : State} (hr : civRst s.civ = false) (h : outFire s = true) :
    exec .deliver s = .next (deliver (hit s) s) :=
  exec_of_row (by decide) rfl ((deliver_row_iff s).mpr ⟨hr, h⟩)

/-- Where no byte is accepted the input side selects nothing or STALL, and either changes nothing
(R77, R119). -/
theorem selInput_of_not_inFire {s : State} (hr : civRst s.civ = false) (hf : inFire s = false) :
    selInput (selVector s) = none ∨ selInput (selVector s) = some .stall := by
  rw [inFire, inReady, hr] at hf
  rw [selVector, hr]
  exact selInput_mkSel_of_not_accepted _ _ _ _ _ hf

/-- The consuming micro-operation of a cycle with these values of `out_ready`, `full` and `fv` (R77). -/
def consumingOp (ready full valid : Bool) : Instr :=
  match ready, full, valid with
  | true, false, _ => .accumReady
  | false, false, _ => .accumEmpty
  | true, true, true => .hitReady
  | false, true, true => .hitEmpty
  | true, true, false => .missReady
  | false, true, false => .missEmpty

theorem consumingOp_mem : ∀ o f k : Bool, consumingOp o f k ∈ consumingOps := by decide

theorem consumingOp_row : ∀ r v o q f k : Bool,
    (rowOf (consumingOp o f k)).applies (mkSel r v o q f k).toNat = (v && (!r && (!q || o))) := by
  decide

/-- The consuming micro-operation of a cycle is selected exactly where a byte is accepted (R77, R106). -/
theorem consumingOp_row_selVector (s : State) :
    (rowOf (consumingOp (civOutReady s.civ) (full s) (fv s))).applies (selVector s).toNat =
      inFire s :=
  consumingOp_row ..

/-- Consuming a byte, it does not matter whether `ov` was set at a hit: a hit sets it (R115). -/
theorem consume_deliver_hit {s : State} {x : Bool}
    (hx : x = true → hit s = true) :
    consume (inData s) (deliver x s) = consume (inData s) (deliver false s) := by
  cases x
  case false => rfl
  case true =>
    obtain ⟨-, hfull, hv⟩ := hit_eq_true.mp (hx rfl)
    have hcnt := full_eq_true.mp hfull
    rw [consume_of_hit (s := deliver true s) _ hcnt hv,
      consume_of_hit (s := deliver false s) _ hcnt hv]
    rfl

/-- What a selected micro-operation, if any, makes of the state (R77). -/
def perform (selected : Option Instr) (s : State) : Host.Outcome State Fault Refusal :=
  match selected with
  | some i => exec i s
  | none => .next s

/-- `ov` after the output side of a cycle (R114). -/
def ovAfterOutputSide (s : State) : Bool := if outFire s then hit s else s.ov

theorem perform_selOutput {s : State} (hr : civRst s.civ = false) :
    perform (selOutput (selVector s)) s = .next (deliver (ovAfterOutputSide s) s) := by
  rw [selOutput_selVector hr, ovAfterOutputSide]
  cases ho : outFire s
  case false => rfl
  case true => exact exec_deliver_of_outFire hr ho

theorem ovAfterOutputSide_of_not_inFire {s : State} (hf : inFire s = false) :
    ovAfterOutputSide s = (s.ov && !civOutReady s.civ) := by
  rw [ovAfterOutputSide, outFire, hit_of_not_inFire hf]
  cases s.ov <;> cases civOutReady s.civ <;> rfl

/-- After the output side of a cycle that accepts a byte, `ov` is set at a hit alone, and only where the
consumer is ready. -/
theorem hit_of_ovAfterOutputSide {s : State} (hf : inFire s = true)
    (h : ovAfterOutputSide s = true) : hit s = true ∧ civOutReady s.civ = true := by
  have hfire := Runs.outFire_of_inFire hf
  cases hov : s.ov
  case false => simp [ovAfterOutputSide, hfire, hov] at h
  case true =>
    simp only [outFire, hov, Bool.true_and] at hfire
    simp only [ovAfterOutputSide, outFire, hov, hfire] at h
    exact ⟨h, hfire⟩

/-- The input side of a cycle that accepts a byte, performed after the output side: only the rows with
`out_ready = 0` read `ov`, and those deliver nothing (R77). -/
theorem perform_selInput_of_inFire {s : State} (hr : civRst s.civ = false) (hf : inFire s = true) :
    perform (selInput (selVector s)) (deliver (ovAfterOutputSide s) s) = .next (nextState s) := by
  have hov := hit_of_ovAfterOutputSide hf
  generalize ovAfterOutputSide s = x at hov
  have hfire : inFire (deliver x s) = true := by
    cases x
    case false =>
      simp only [inFire, inReady, Bool.and_eq_true] at hf ⊢
      exact ⟨hf.1, hf.2.1, rfl⟩
    case true =>
      obtain ⟨-, hready⟩ := hov rfl
      simp only [inFire, inReady, Bool.and_eq_true] at hf ⊢
      exact ⟨hf.1, hf.2.1, by simp [hready]⟩
  have hmem := consumingOp_mem (civOutReady s.civ) (full s) (fv s)
  have hrow := (consumingOp_row_selVector s).trans hf
  have hrow' := (consumingOp_row_selVector (deliver x s)).trans hfire
  rw [(selInput_iff_row hmem _).mpr hrow, nextState_of_inFire hr hf,
    ← consume_deliver_hit fun h => (hov h).1]
  exact exec_consumingOp_of_row hmem hrow'

/-- Where no byte is accepted the input side changes nothing (R77, R119). -/
theorem perform_selInput_of_not_inFire {s : State} (hr : civRst s.civ = false)
    (hf : inFire s = false) :
    perform (selInput (selVector s)) (deliver (ovAfterOutputSide s) s) = .next (nextState s) := by
  rw [nextState_of_not_inFire hr hf, ovAfterOutputSide_of_not_inFire hf]
  rcases selInput_of_not_inFire hr hf with h | h <;> rw [h] <;> rfl

/-- Settles O25: the output side and then the input side perform the next-state function, which the
command computes (O26). -/
theorem commandIsItsMicroOps : Obligations.CommandIsItsMicroOps := by
  intro v s hv c
  have hr : civRst c.civ = false := hv
  have hcommand : exec (decodeCiv v) c = .next (nextState c) :=
    commandsComputeTheNextStateFunction v s
  clear_value c
  refine ⟨deliver (ovAfterOutputSide c) c, perform_selOutput hr, hcommand.trans (Eq.symm ?_)⟩
  cases hf : inFire c
  case false => exact perform_selInput_of_not_inFire hr hf
  case true => exact perform_selInput_of_inFire hr hf

end Sys2Proof.Proofs.Cycles

/-! PROOFS. PUSHPOP edges and FRAME (30_encoding R79, 40_synchronizer R118), and the step (10_state R11,
30_encoding R76). -/

namespace Sys2Proof.Proofs.Feeding

open Sys2Proof Sys2Proof.Machine

/-! ### One PUSHPOP edge (R118) -/

@[simp] theorem inData_present_pushpop (b : Byte) (s : State) :
    inData (present (pushpopVector b) s) = b :=
  civInData_mkCiv ..

/-- A PUSHPOP edge of the block is one byte fed (R79). -/
theorem edge_pushpop (b : Byte) (s : State) (o : Observer) :
    edge (pushpopVector b) (s, o) = (feedByte s b, observe (present (pushpopVector b) s) o) := by
  have hexec : exec (decodeCiv (pushpopVector b)) (present (pushpopVector b) s) =
      .next (feedByte s b) := by
    rw [Encoding.decodeCiv_pushpopVector, Synchronizer.exec_pushpop]
    rfl
  exact edge_of_exec o hexec

/-- Settles O15: the byte is accepted, so the held frame is taken; it fills a valid window, so that window
is emitted. -/
theorem hitAndDeliverAtOneEdge : Obligations.HitAndDeliverAtOneEdge := by
  intro s o b hov hcnt hv p
  have hf := Runs.inFire_pushpop b s
  have hhit : hit (present (pushpopVector b) s) = true :=
    Synchronizer.hit_eq_true.mpr
      ⟨hf, Synchronizer.full_eq_true.mpr hcnt, by simpa [candidate8] using hv⟩
  have hblock : feedByte s b =
      hitWith (window8 s.win b) (deliver false (present (pushpopVector b) s)) :=
    consume_of_hit b hcnt hv
  have hp : p = (feedByte s b, observe (present (pushpopVector b) s) o) := edge_pushpop b s o
  rw [hp, hblock, Runs.observe_of_inFire (Runs.civRst_of_inFire hf) hf, hhit,
    Runs.outFire_of_inFire hf, present_ov, hov]
  exact ⟨rfl, by simp [candidate8], rfl, rfl, rfl⟩

/-! ### FRAME, and a queued frame word (R79) -/

/-- PUSHPOP edges of bytes in order leave what feeding the bytes leaves (R79). -/
theorem runEdges_pushpop (bs : List Byte) (p : State × Observer) :
    (runEdges (bs.map pushpopVector) p).1 = feed bs p.1 := by
  induction bs generalizing p with
  | nil => rfl
  | cons b bs ih => rw [List.map_cons, runEdges_cons, ih, edge_pushpop, feed_cons]

theorem exec_frame (dev mant : BitVec 16) (exp ck : Byte) (s : State) :
    exec (.frame dev mant exp ck) s = .next (feed (frameOfFields dev mant exp ck).toList s) := rfl

/-- The block beside another queue. -/
def withQueue (q : List Input) (s : State) : State := { s with inputs := q }

theorem consume_withQueue (q : List Input) (b : Byte) (s : State) :
    consume b (withQueue q s) = withQueue q (consume b s) := by
  rcases consume_cases b s with ⟨hcnt, hc⟩ | ⟨hcnt, hv, hc⟩ | ⟨hcnt, hv, hc⟩ <;> rw [hc]
  case inl => exact consume_of_not_full (s := withQueue q s) b hcnt
  case inr.inl => exact consume_of_hit (s := withQueue q s) b hcnt hv
  case inr.inr => exact consume_of_miss (s := withQueue q s) b hcnt hv

/-- Feeding a byte neither reads nor changes the queue. -/
theorem feedByte_withQueue (q : List Input) (s : State) (b : Byte) :
    feedByte (withQueue q s) b = withQueue q (feedByte s b) :=
  consume_withQueue q b (deliver false (present (pushpopVector b) s))

/-- A step that takes a queued PUSHPOP vector feeds its byte. -/
theorem step_of_queued_pushpop (b : Byte) (q : List Input) (s : State) :
    step (withQueue (.vector (pushpopVector b) :: q) s) = .next (withQueue q (feedByte s b)) := by
  rw [Exceptions.step_of_vector (nextInput_cons rfl), Encoding.decodeCiv_pushpopVector,
    Synchronizer.exec_pushpop, ← feedByte_withQueue]
  rfl

theorem core_run_succ {s t : State} (h : step s = .next t) (n : Nat) :
    Host.Core.run Sys2Proof.core (n + 1) s = Host.Core.run Sys2Proof.core n t := by
  have hcore : Sys2Proof.core.step s = .next t := h
  simp only [Host.Core.run, hcore]

/-- Steps that take queued PUSHPOP vectors feed their bytes, and leave the queue behind them. -/
theorem run_queued_pushpop (bs : List Byte) (q : List Input) (s : State) :
    Host.Core.run Sys2Proof.core bs.length
        (withQueue (bs.map (fun b => Input.vector (pushpopVector b)) ++ q) s) =
      .next (feed bs (withQueue q s)) := by
  induction bs generalizing s with
  | nil => rfl
  | cons b bs ih =>
    rw [List.length_cons, List.map_cons, List.cons_append,
      core_run_succ (step_of_queued_pushpop b _ s), ih, feed_cons, feedByte_withQueue]

/-- Settles O17: the feed of the bytes is their PUSHPOP edges, and the run over the queued vectors. -/
theorem frameIsEightPushpopEdges : Obligations.FrameIsEightPushpopEdges := by
  refine ⟨fun dev mant exp ck s o => ?exec, fun F q s hq => ?step⟩
  case exec => rw [exec_frame, runEdges_pushpop]
  case step =>
    rw [FrameRegister.step_of_frame_word (nextInput_cons hq)]
    exact (run_queued_pushpop (unpackFrame F).toList q s).symm

/-- Seven bytes written in order leave nothing of the old window. -/
theorem window_set_seven (win : Window) (b0 b1 b2 b3 b4 b5 b6 : Byte) :
    ((((((win.setIfInBounds 0 b0).setIfInBounds 1 b1).setIfInBounds 2 b2).setIfInBounds 3
      b3).setIfInBounds 4 b4).setIfInBounds 5 b5).setIfInBounds 6 b6 =
        #v[b0, b1, b2, b3, b4, b5, b6] := by
  apply Vector.ext
  intro k hk
  interval_cases k <;> simp

/-- Seven bytes fed to an empty window fill it: each is an ACCUM at the next position (R113). -/
theorem feed_seven {s : State} (h : s.cnt = 0#3) (b0 b1 b2 b3 b4 b5 b6 : Byte) :
    feed [b0, b1, b2, b3, b4, b5, b6] s =
      { s with cnt := 7#3, win := #v[b0, b1, b2, b3, b4, b5, b6], ov := false,
               civ := pushpopVector b6 } := by
  obtain ⟨cnt, win, ov, fr, civ, inputs, draws⟩ := s
  obtain rfl : cnt = 0#3 := h
  rw [← window_set_seven win]
  rfl

/-- Feeding a frame's bytes to an empty window is feeding its last byte to a full one. -/
theorem feed_frame {s : State} (h : s.cnt = 0#3) (w : Frame) :
    feed w.toList s =
      consume w[7] { s with cnt := 7#3, win := #v[w[0], w[1], w[2], w[3], w[4], w[5], w[6]],
                            ov := false, civ := pushpopVector w[7] } := by
  have hlast : w.toList = [w[0], w[1], w[2], w[3], w[4], w[5], w[6]] ++ [w[7]] := frame_toList w
  rw [hlast, feed_append, feed_seven h]
  rfl

/-- Settles O16: after seven bytes the window is full, and with the eighth it is the frame, which is
emitted if it is valid and slides if it is not. -/
theorem frameOnEmptyWindow : Obligations.FrameOnEmptyWindow := by
  intro dev mant exp ck s hcnt w
  have hexec : exec (.frame dev mant exp ck) s = .next (feed w.toList s) := exec_frame ..
  rw [hexec, feed_frame hcnt]
  have hwindow : window8 #v[w[0], w[1], w[2], w[3], w[4], w[5], w[6]] w[7] = w :=
    (frame_eq_literal w).symm
  refine ⟨fun hv => ?valid, fun hv => ?invalid⟩
  case valid =>
    rw [consume_of_hit _ rfl (by rwa [hwindow]), hwindow]
    rfl
  case invalid =>
    rw [consume_of_miss _ rfl (by rwa [hwindow])]
    rfl

/-! ### The step (R11, R76) -/

/-- Settles O41: each case names the environment's next move and what the decoder makes of it. -/
theorem stepRunsTheDecodedInstruction : Obligations.StepRunsTheDecodedInstruction := by
  intro s
  refine ⟨fun v q i hq hdec => ?queued, fun i hq hdec => ?free, fun F q i hq hdec => ?frame,
    fun F q e hq hdec => ?notFrame⟩
  case queued =>
    obtain rfl := Except.ok.inj hdec
    exact Exceptions.step_of_vector (nextInput_cons hq)
  case free =>
    obtain rfl := Except.ok.inj hdec
    exact Exceptions.step_of_vector (nextInput_nil hq)
  case frame => exact Exceptions.step_of_frame (nextInput_cons hq) hdec
  case notFrame => exact Exceptions.step_of_not_frame (nextInput_cons hq) hdec

end Sys2Proof.Proofs.Feeding

/-! PROOFS. What the ports show (10_state R22 to R26) and when they change: `in_ready`, the frame register
with the decoder's outputs (R33, R57, R160), DIAG (R180), and the stale window bytes (R31, R35). -/

namespace Sys2Proof.Proofs.Ports

open Sys2Proof Sys2Proof.Machine Sys2Proof.Proofs.Synchronizer

/-! ### Reset, `in_ready` and DIAG -/

/-- Settles O10: closed values, but for `in_ready`, which is 1 because nothing is held. -/
theorem resetStateAndItsPorts : Obligations.ResetStateAndItsPorts := by
  refine ⟨rfl, rfl, rfl, rfl, rfl, by decide, by decide, fun v hv => ?_⟩
  rw [inReady_present hv, reset_ov]
  rfl

/-- Settles O27: a hit accepts a byte, which leaves no frame held (R106). -/
theorem hitNeverOverwritesAnUndeliveredFrame :
    Obligations.HitNeverOverwritesAnUndeliveredFrame := by
  intro s
  refine ⟨by simp [inReady], fun hhit => ?_⟩
  obtain ⟨hf, -, -⟩ := hit_eq_true.mp hhit
  rw [Runs.outFire_of_inFire hf]
  exact Bool.eq_false_or_eq_true _ |>.symm

/-- Settles O32: every port of the trace is gated by DIAG, and no other port reads it. -/
theorem diagOnlyDrivesTheTrace : Obligations.DiagOnlyDrivesTheTrace := fun _ =>
  ⟨rfl, fun _ => rfl⟩

/-! ### The frame register (R33) -/

/-- `fr` after an edge: the candidate window at a hit, else as it was (R109). -/
theorem nextState_fr {s : State} (h : civRst s.civ = false) :
    (nextState s).fr = if hit s then candidate8 s else s.fr := by
  simp [nextState, h, hit_eq_r109Hit h]

/-- Settles O29: `fr` and `ov` after the edge by their equations; a frame held and not taken leaves no
byte accepted, so there is no hit. -/
theorem frameRegisterChangesOnlyAtHitOrReset :
    Obligations.FrameRegisterChangesOnlyAtHitOrReset := by
  intro v s t ht
  rw [commandsComputeTheNextStateFunction v s] at ht
  obtain rfl := Host.Outcome.next.inj ht
  have hfr (hr : civRst v = false) := nextState_fr (s := present v s) hr
  have hov (hr : civRst v = false) := nextState_ov (s := present v s) hr
  refine ⟨fun hne => ?changed, fun hhit => ?atHit, fun hr hout hheld => ?held⟩
  case changed =>
    by_contra hno
    simp only [not_or, Bool.not_eq_true] at hno
    obtain ⟨hr, hhit⟩ := hno
    exact hne (by simp [hfr hr, hhit])
  case atHit =>
    obtain ⟨hf, -, -⟩ := hit_eq_true.mp hhit
    have hr : civRst v = false := Runs.civRst_of_inFire (s := present v s) hf
    exact ⟨by simp [hfr hr, hhit], by simp [hov hr, hhit]⟩
  case held =>
    have hready : civOutReady v = false := by simpa [outFire_present, hheld] using hout
    have hf : inFire (present v s) = false := by
      simp [inFire, inReady, hheld, hready]
    have hsame : (nextState (present v s)).fr = s.fr := by
      simp [hfr hr, hit_of_not_inFire hf]
    have hstays : (nextState (present v s)).ov = true := by
      simp [hov hr, hheld, hready]
    rw [outFrame, outFrame, hsame]
    exact ⟨hstays, rfl, rfl, rfl⟩

/-! ### Stale window bytes (R31, R35) -/

section Agreement

variable {s t : State}

theorem agreeButStale_window8 (h : AgreeButStale s t) (hcnt : s.cnt = 7#3) (b : Byte) :
    window8 s.win b = window8 t.win b := by
  obtain ⟨hc, hpend, -⟩ := h
  apply Vector.toList_inj.mp
  rw [window8_toList_of_full hcnt, window8_toList_of_full (hc ▸ hcnt), hpend]

theorem agreeButStale_inData (h : AgreeButStale s t) : inData s = inData t := by
  obtain ⟨-, -, -, -, hciv, -⟩ := h
  rw [inData, inData, hciv]

theorem agreeButStale_inFire (h : AgreeButStale s t) : inFire s = inFire t := by
  obtain ⟨-, -, hov, -, hciv, -⟩ := h
  rw [inFire, inFire, inReady, inReady, hov, hciv]

theorem agreeButStale_full (h : AgreeButStale s t) : full s = full t := by
  obtain ⟨hcnt, -⟩ := h
  rw [full, full, hcnt]

/-- The candidate window is read only where it is full, and there no byte of it is stale (R104). -/
theorem agreeButStale_candidate8 (h : AgreeButStale s t) (hfull : full s = true) :
    candidate8 s = candidate8 t := by
  rw [candidate8, candidate8, ← agreeButStale_inData h,
    agreeButStale_window8 h (full_eq_true.mp hfull)]

theorem agreeButStale_fv (h : AgreeButStale s t) : fv s = fv t := by
  rw [fv, fv, ← agreeButStale_full h]
  cases hfull : full s
  case false => rfl
  case true => rw [agreeButStale_candidate8 h hfull]

theorem agreeButStale_selVector (h : AgreeButStale s t) : selVector s = selVector t := by
  have hfull := agreeButStale_full h
  have hfv := agreeButStale_fv h
  obtain ⟨-, -, hov, -, hciv, -⟩ := h
  rw [selVector, selVector, hov, hciv, hfull, hfv]

theorem hit_eq_inFire_and_fv (s : State) : hit s = (inFire s && fv s) := by
  rw [hit, fv]
  cases hr : civRst s.civ
  case false => simp [Bool.and_assoc]
  case true => simp [Diagnostics.inFire_of_rst hr]

theorem agreeButStale_hit (h : AgreeButStale s t) : hit s = hit t := by
  rw [hit_eq_inFire_and_fv, hit_eq_inFire_and_fv, agreeButStale_inFire h, agreeButStale_fv h]

theorem agreeButStale_evaluates (h : AgreeButStale s t) : evaluates s = evaluates t := by
  have hfire := agreeButStale_inFire h
  have hfull := agreeButStale_full h
  obtain ⟨-, -, -, -, hciv, -⟩ := h
  rw [evaluates, evaluates, hciv, hfire, hfull]

theorem agreeButStale_dbgSum (h : AgreeButStale s t) (diag : Bool) :
    dbgSum diag s = dbgSum diag t := by
  rw [dbgSum, dbgSum, ← agreeButStale_evaluates h]
  cases heval : evaluates s
  case false => simp
  case true =>
    obtain ⟨-, -, hcnt⟩ := Diagnostics.evaluates_eq_true.mp heval
    rw [agreeButStale_candidate8 h (full_eq_true.mpr hcnt)]

/-- No port shows a stale byte (R35). -/
theorem agreeButStale_outputs (h : AgreeButStale s t) (diag : Bool) :
    outputsOf diag s = outputsOf diag t := by
  have hfire := agreeButStale_inFire h
  have heval := agreeButStale_evaluates h
  have hdata := agreeButStale_inData h
  have hsum := agreeButStale_dbgSum h diag
  obtain ⟨-, -, hov, hfr, hciv, -⟩ := h
  simp only [outputsOf, inReady, outValid, outFrame, dbgByteValid, dbgByte, dbgEvalValid, hov, hfr,
    hciv, hfire, heval, hdata, hsum]

/-! Each operation on the registers keeps the agreement. -/

theorem agreeButStale_deliver (h : AgreeButStale s t) (x : Bool) :
    AgreeButStale (deliver x s) (deliver x t) := by
  obtain ⟨hcnt, hpend, -, hrest⟩ := h
  exact ⟨hcnt, hpend, rfl, hrest⟩

theorem agreeButStale_present (h : AgreeButStale s t) (v : Civ) :
    AgreeButStale (present v s) (present v t) := by
  obtain ⟨hcnt, hpend, hov, hfr, -, hrest⟩ := h
  exact ⟨hcnt, hpend, hov, hfr, rfl, hrest⟩

theorem agreeButStale_resetBlock (h : AgreeButStale s t) :
    AgreeButStale (resetBlock s) (resetBlock t) := by
  obtain ⟨-, -, -, -, henv⟩ := h
  exact ⟨rfl, rfl, rfl, rfl, henv⟩

/-- Consuming a byte writes the first stale byte, or leaves every byte stale, or slides a window that has
none (R35, R113, R115, R116). -/
theorem agreeButStale_consume (h : AgreeButStale s t) (b : Byte) :
    AgreeButStale (consume b s) (consume b t) := by
  have hwindow := agreeButStale_window8 h
  obtain ⟨hcnt, hpend, hov, hfr, henv⟩ := h
  rcases consume_cases b s with ⟨hc, hs⟩ | ⟨hc, hv, hs⟩ | ⟨hc, hv, hs⟩ <;> rw [hs]
  case inl =>
    have hc' : t.cnt ≠ 7#3 := hcnt ▸ hc
    rw [consume_of_not_full b hc']
    exact ⟨congrArg (· + 1#3) hcnt, by rw [pending_accum b s hc, pending_accum b t hc', hpend],
      hov, hfr, henv⟩
  case inr.inl =>
    rw [hwindow hc] at hv ⊢
    rw [consume_of_hit b (hcnt ▸ hc) hv]
    exact ⟨rfl, by rw [pending_of_cnt_eq_zero rfl, pending_of_cnt_eq_zero rfl], rfl, rfl, henv⟩
  case inr.inr =>
    have hc' : t.cnt = 7#3 := hcnt ▸ hc
    rw [hwindow hc] at hv
    rw [consume_of_miss b hc' hv]
    exact ⟨rfl, by rw [pending_slide b s hc, pending_slide b t hc', hpend], hov, hfr, henv⟩

theorem agreeButStale_feed (h : AgreeButStale s t) (bs : List Byte) :
    AgreeButStale (feed bs s) (feed bs t) := by
  induction bs generalizing s t with
  | nil => exact h
  | cons b bs ih =>
    exact ih (agreeButStale_consume (agreeButStale_deliver (agreeButStale_present h _) false) b)

end Agreement

/-- Two answers that agree: both are next states, and differ at most in stale bytes. -/
def AnswersAgree (r r' : Host.Outcome State Fault Refusal) : Prop :=
  ∃ t t', r = .next t ∧ r' = .next t' ∧ AgreeButStale t t'

/-- A consuming micro-operation is selected in both states or in neither, and consumes the byte where it
is (R77). -/
theorem answersAgree_consumingOp {s s' : State} (h : AgreeButStale s s') {i : Instr}
    (hi : i ∈ Cycles.consumingOps) : AnswersAgree (exec i s) (exec i s') := by
  have hmicro := Cycles.consumingOps_subset_microOps i hi
  have hsel := agreeButStale_selVector h
  cases hrow : (rowOf i).applies (selVector s).toNat
  case false =>
    exact ⟨s, s', Cycles.unselectedMicroOpAssignsNothing s i hmicro hrow,
      Cycles.unselectedMicroOpAssignsNothing s' i hmicro (hsel ▸ hrow), h⟩
  case true =>
    refine ⟨_, _, Cycles.exec_consumingOp_of_row hi hrow,
      Cycles.exec_consumingOp_of_row hi (hsel ▸ hrow), ?_⟩
    rw [← agreeButStale_inData h]
    exact agreeButStale_consume h _

theorem answersAgree_deliver {s s' : State} (h : AgreeButStale s s') :
    AnswersAgree (exec .deliver s) (exec .deliver s') := by
  have hsel := agreeButStale_selVector h
  cases hrow : (rowOf .deliver).applies (selVector s).toNat
  case false =>
    exact ⟨s, s', Cycles.unselectedMicroOpAssignsNothing s _ (by decide) hrow,
      Cycles.unselectedMicroOpAssignsNothing s' _ (by decide) (hsel ▸ hrow), h⟩
  case true =>
    refine ⟨_, _, exec_of_row (by decide) rfl hrow, exec_of_row (by decide) rfl (hsel ▸ hrow), ?_⟩
    rw [← agreeButStale_hit h]
    exact agreeButStale_deliver h _

theorem answersAgree_exec {s s' : State} (h : AgreeButStale s s') (i : Instr) :
    AnswersAgree (exec i s) (exec i s') := by
  cases i with
  | rst => exact ⟨_, _, exec_rst s, exec_rst s', agreeButStale_resetBlock h⟩
  | nop | stall => exact ⟨s, s', rfl, rfl, h⟩
  | pop => exact ⟨_, _, exec_pop s, exec_pop s', agreeButStale_deliver h false⟩
  | push b =>
    have hov : s.ov = s'.ov := h.2.2.1
    cases hheld : s.ov
    case true =>
      exact ⟨s, s', exec_push_of_held b hheld, exec_push_of_held b (hov ▸ hheld), h⟩
    case false =>
      exact ⟨_, _, exec_push_of_not_held b hheld, exec_push_of_not_held b (hov ▸ hheld),
        agreeButStale_consume h b⟩
  | pushpop b =>
    exact ⟨_, _, exec_pushpop b s, exec_pushpop b s',
      agreeButStale_consume (agreeButStale_deliver h false) b⟩
  | frame dev mant exp ck =>
    exact ⟨_, _, Feeding.exec_frame .., Feeding.exec_frame .., agreeButStale_feed h _⟩
  | accumReady | accumEmpty | hitReady | hitEmpty | missReady | missEmpty =>
    exact answersAgree_consumingOp h (by decide)
  | deliver => exact answersAgree_deliver h

/-- Settles O30: neither the ports nor any instruction read a stale byte. -/
theorem staleWindowBytesAreUnobservable : Obligations.StaleWindowBytesAreUnobservable :=
  fun _ _ h => ⟨agreeButStale_outputs h, answersAgree_exec h⟩

end Sys2Proof.Proofs.Ports

/-! PROOFS. The physical values (41_decoder R152, R153, R156) and their binary64 ports (R158, R159). -/

namespace Sys2Proof.Proofs.Values

open Sys2Proof Sys2Proof.Machine

/-! ### The exact current and power (R152, R153) -/

theorem decMant_toNat_le (w : Frame) : (decMant w).toNat ≤ 65535 :=
  Nat.le_of_lt_succ (decMant w).isLt

theorem decExp_toNat_le (w : Frame) : (decExp w).toNat ≤ 255 :=
  Nat.le_of_lt_succ (decExp w).isLt

theorem decMant_toNat_eq_zero {w : Frame} : (decMant w).toNat = 0 ↔ decMant w = 0#16 := by
  rw [← BitVec.toNat_inj, BitVec.toNat_ofNat, Nat.zero_mod]

/-- The current as mantissa and power of two, with the exponent as a number (R152). -/
theorem current_eq (w : Frame) :
    current w = ((decMant w).toNat : ℚ) * (2 : ℚ) ^ ((decExp w).toNat - 15 : Int) := by
  rw [Decoder.current_eq_mant_mul_two_zpow, Decoder.curExp_toInt]

/-- The power has the current's exponent (R153, R155). -/
theorem power_eq (w : Frame) :
    power w = ((powMant w).toNat : ℚ) * (2 : ℚ) ^ ((decExp w).toNat - 15 : Int) := by
  rw [Decoder.power_eq_powMant_mul_two_zpow, Decoder.curExp_toInt]

theorem power_eq_current_mul (w : Frame) : power w = current w * 240 := by
  norm_num [power, Config.voltage]

theorem current_nonneg (w : Frame) : 0 ≤ current w := by
  rw [current_eq]
  positivity

theorem current_eq_zero_iff (w : Frame) : current w = 0 ↔ decMant w = 0#16 := by
  have hscale : (2 : ℚ) ^ ((decExp w).toNat - 15 : Int) ≠ 0 := by positivity
  rw [current_eq, mul_eq_zero_iff_right hscale, Nat.cast_eq_zero, decMant_toNat_eq_zero]

theorem current_le (w : Frame) : current w ≤ 65535 * (2 : ℚ) ^ (240 : Nat) := by
  have hmant : ((decMant w).toNat : ℚ) ≤ 65535 := by exact_mod_cast decMant_toNat_le w
  have hexp : ((decExp w).toNat - 15 : Int) ≤ (240 : Nat) := by
    have := decExp_toNat_le w
    omega
  have hscale : (2 : ℚ) ^ ((decExp w).toNat - 15 : Int) ≤ 2 ^ (240 : Nat) := by
    rw [← zpow_natCast]
    exact zpow_le_zpow_right₀ one_le_two hexp
  rw [current_eq]
  exact mul_le_mul hmant hscale (by positivity) (by norm_num)

theorem le_current {w : Frame} (h : decMant w ≠ 0#16) : (2 : ℚ) ^ (-15 : Int) ≤ current w := by
  have hmant : (1 : ℚ) ≤ (decMant w).toNat := by
    exact_mod_cast Nat.one_le_iff_ne_zero.mpr (mt decMant_toNat_eq_zero.mp h)
  have hscale : (2 : ℚ) ^ (-15 : Int) ≤ 2 ^ ((decExp w).toNat - 15 : Int) :=
    zpow_le_zpow_right₀ one_le_two (by omega)
  rw [current_eq]
  calc (2 : ℚ) ^ (-15 : Int) ≤ 2 ^ ((decExp w).toNat - 15 : Int) := hscale
    _ ≤ ((decMant w).toNat : ℚ) * 2 ^ ((decExp w).toNat - 15 : Int) :=
      le_mul_of_one_le_left (by positivity) hmant

/-- The valid frame with the largest mantissa and exponent (R152). -/
def largestFrame : Frame :=
  #v[0x09#8, 0x94#8, 0x00#8, 0x00#8, 0xFF#8, 0xFF#8, 0xFF#8, 0x9A#8]

/-- The valid frame with the least mantissa above 0 and the least exponent (R152). -/
def leastFrame : Frame :=
  #v[0x09#8, 0x94#8, 0x00#8, 0x00#8, 0x00#8, 0x01#8, 0x00#8, 0x9E#8]

theorem current_largestFrame : current largestFrame = 65535 * (2 : ℚ) ^ (240 : Nat) := by
  have hmant : (decMant largestFrame).toNat = 65535 := by decide
  have hexp : (decExp largestFrame).toNat = 255 := by decide
  rw [current_eq, hmant, hexp, ← zpow_natCast]
  norm_num

theorem current_leastFrame : current leastFrame = (2 : ℚ) ^ (-15 : Int) := by
  have hmant : (decMant leastFrame).toNat = 1 := by decide
  have hexp : (decExp leastFrame).toNat = 0 := by decide
  rw [current_eq, hmant, hexp]
  norm_num

/-- Settles O36: the value is `current_eq`, and each bound is met by a valid frame. -/
theorem currentValueAndRange : Obligations.CurrentValueAndRange :=
  ⟨fun w => ⟨current_eq w, current_nonneg w, current_eq_zero_iff w, current_le w, le_current⟩,
    ⟨largestFrame, by decide, current_largestFrame⟩, ⟨leastFrame, by decide, current_leastFrame⟩⟩

/-- Settles O37: the current's value and range, 240 times. -/
theorem powerValueAndRange : Obligations.PowerValueAndRange := by
  intro w
  have hcurrent := power_eq_current_mul w
  refine ⟨hcurrent, ?value, ?nonneg, ?bound⟩
  case value => rw [hcurrent, current_eq, mul_right_comm]
  case nonneg =>
    rw [hcurrent]
    exact mul_nonneg (current_nonneg w) (by norm_num)
  case bound =>
    rw [hcurrent, mul_right_comm 65535 240]
    exact mul_le_mul_of_nonneg_right (current_le w) (by norm_num)

/-! ### Binary64 patterns (R158) -/

/-- The three fields of a pattern are the three parts it is joined from. -/
theorem f64_fields (a : BitVec 11) (b : BitVec 52) :
    f64Sign (0#1 ++ a ++ b) = false ∧ f64ExpField (0#1 ++ a ++ b) = a.toNat ∧
      f64FracField (0#1 ++ a ++ b) = b.toNat := by
  refine ⟨?sign, ?exponent, ?fraction⟩
  case sign =>
    rw [f64Sign, BitVec.getLsbD_append, if_neg (by decide), BitVec.getLsbD_append,
      if_neg (by decide)]
    rfl
  case exponent =>
    rw [f64ExpField]
    congr 1
    apply BitVec.eq_of_getLsbD_eq
    intro k hk
    rw [BitVec.getLsbD_extractLsb', BitVec.getLsbD_append, if_neg (by omega),
      Nat.add_sub_cancel_left, BitVec.getLsbD_append, if_pos hk]
    simp [hk]
  case fraction =>
    rw [f64FracField]
    congr 1
    apply BitVec.eq_of_getLsbD_eq
    intro k hk
    rw [BitVec.getLsbD_extractLsb', Nat.zero_add, BitVec.getLsbD_append, if_pos hk]
    simp [hk]

/-- The leading 1 of a number below `2^53`, moved to bit 52, is the hidden bit above 52 fraction bits
(R158). -/
theorem f64Frac_add {m : Nat} (h0 : m ≠ 0) (h : m < 2 ^ 53) :
    2 ^ 52 + f64Frac m = m * 2 ^ (52 - Nat.log2 m) ∧ f64Frac m < 2 ^ 52 := by
  have hlog : Nat.log2 m ≤ 52 := Nat.le_of_lt_succ ((Nat.log2_lt h0).mpr h)
  have hsum : Nat.log2 m + 1 + (52 - Nat.log2 m) = 53 := by omega
  have hlow : 2 ^ 52 ≤ m * 2 ^ (52 - Nat.log2 m) := by
    calc 2 ^ 52 = 2 ^ Nat.log2 m * 2 ^ (52 - Nat.log2 m) := by
          rw [← pow_add, Nat.add_sub_cancel' hlog]
      _ ≤ m * 2 ^ (52 - Nat.log2 m) := Nat.mul_le_mul_right _ (Nat.log2_self_le h0)
  have hhigh : m * 2 ^ (52 - Nat.log2 m) < 2 ^ 53 := by
    calc m * 2 ^ (52 - Nat.log2 m) < 2 ^ (Nat.log2 m + 1) * 2 ^ (52 - Nat.log2 m) :=
          Nat.mul_lt_mul_of_pos_right Nat.lt_log2_self (by positivity)
      _ = 2 ^ 53 := by rw [← pow_add, hsum]
  have hfrac : f64Frac m = m * 2 ^ (52 - Nat.log2 m) - 2 ^ 52 := rfl
  omega

/-- `F64(M, E)` within its requirement: the sign and the two fields (R158). -/
theorem f64_eq_fields {m : Nat} {e : Int} (h0 : m ≠ 0) (h : m < 2 ^ 53)
    (hlo : 1 ≤ f64BiasedExp m e) (hhi : f64BiasedExp m e ≤ 2046) :
    f64Sign (f64 m e) = false ∧ (f64ExpField (f64 m e) : Int) = f64BiasedExp m e ∧
      f64FracField (f64 m e) = f64Frac m := by
  obtain ⟨-, hfrac⟩ := f64Frac_add h0 h
  obtain ⟨hsign, hexp, hfield⟩ :=
    f64_fields (BitVec.ofInt 11 (f64BiasedExp m e)) (BitVec.ofNat 52 (f64Frac m))
  rw [f64, if_neg h0, if_pos ⟨h, hlo, hhi⟩, hsign, hexp, hfield]
  refine ⟨rfl, ?_, ?_⟩
  · rw [BitVec.toNat_ofInt]
    omega
  · rw [BitVec.toNat_ofNat, Nat.mod_eq_of_lt hfrac]

/-- The value of a pattern with sign 0 and an exponent field in the normal range (R158). -/
theorem f64Value_of_normal {x : BitVec 64} (hsign : f64Sign x = false) (hlo : 1 ≤ f64ExpField x)
    (hhi : f64ExpField x ≤ 2046) :
    f64Value x =
      some (((2 ^ 52 + f64FracField x : Nat) : ℚ) * 2 ^ ((f64ExpField x : Int) - 1075)) := by
  have hne : x ≠ 0#64 := by
    rintro rfl
    exact absurd hlo (by decide)
  rw [f64Value, if_neg hne, if_pos ⟨hsign, hlo, hhi⟩]

theorem f64_zero (e : Int) : f64 0 e = 0#64 := by
  rw [f64, if_pos rfl]

theorem f64Value_zero : f64Value 0#64 = some 0 := by
  rw [f64Value, if_pos rfl]

/-- The exponent field's scale undoes the shift of the leading 1 (R158). -/
theorem f64Value_f64 {m : Nat} {e : Int} (h0 : m ≠ 0) (h : m < 2 ^ 53)
    (hlo : 1 ≤ f64BiasedExp m e) (hhi : f64BiasedExp m e ≤ 2046) :
    f64Value (f64 m e) = some ((m : ℚ) * (2 : ℚ) ^ e) := by
  obtain ⟨hsign, hexp, hfield⟩ := f64_eq_fields h0 h hlo hhi
  obtain ⟨hhidden, -⟩ := f64Frac_add h0 h
  have hlog : Nat.log2 m ≤ 52 := Nat.le_of_lt_succ ((Nat.log2_lt h0).mpr h)
  have hscale : ((52 - Nat.log2 m : Nat) : Int) + (f64BiasedExp m e - 1075) = e := by
    rw [f64BiasedExp]
    omega
  rw [f64Value_of_normal hsign (by omega) (by omega), hfield, hexp, hhidden, Nat.cast_mul,
    Nat.cast_pow, Nat.cast_ofNat, ← zpow_natCast, mul_assoc, ← zpow_add₀ two_ne_zero, hscale]

/-- Settles O38: the fields are the parts the pattern is joined from, and its value is that of the
leading 1 and fraction, scaled back. -/
theorem binaryEncodingIsExact : Obligations.BinaryEncodingIsExact := by
  intro m e hm
  refine ⟨fun h => by rw [h, f64_zero], fun h0 hlo hhi => ?normal⟩
  case normal =>
    obtain ⟨hsign, hexp, hfrac⟩ := f64_eq_fields h0 hm hlo hhi
    exact ⟨hsign, hexp, hfrac, f64Value_f64 h0 hm hlo hhi⟩

/-! ### The binary64 ports (R159) -/

/-- The pattern for a mantissa that is 0 or in `2^lo` to `2^hi - 1`, with a decoder's exponent, is exact
and has sign 0; where it is not zero it is normal, its exponent field in the range of R159. -/
theorem f64_of_mantissa {m lo hi n : Nat} (hhi : m < 2 ^ hi) (hbits : hi ≤ 53) (hn : n ≤ 255)
    (hlo : m ≠ 0 → 2 ^ lo ≤ m) :
    f64Value (f64 m (n - 15 : Int)) = some ((m : ℚ) * (2 : ℚ) ^ (n - 15 : Int)) ∧
      f64Sign (f64 m (n - 15 : Int)) = false ∧
      (m ≠ 0 → lo + 1008 ≤ f64ExpField (f64 m (n - 15 : Int)) ∧
        f64ExpField (f64 m (n - 15 : Int)) ≤ hi + 1262) := by
  by_cases h0 : m = 0
  case pos =>
    subst h0
    refine ⟨?_, ?_, fun h => absurd rfl h⟩
    · rw [f64_zero, f64Value_zero]
      simp
    · rw [f64_zero]
      decide
  case neg =>
    have hlog : Nat.log2 m < hi := (Nat.log2_lt h0).mpr hhi
    have hlog' : lo ≤ Nat.log2 m := (Nat.le_log2 h0).mpr (hlo h0)
    have hm : m < 2 ^ 53 := hhi.trans_le (Nat.pow_le_pow_right two_pos hbits)
    have hbexp : f64BiasedExp m (n - 15 : Int) = Nat.log2 m + n + 1008 := by
      rw [f64BiasedExp]
      omega
    have hb1 : 1 ≤ f64BiasedExp m (n - 15 : Int) := by omega
    have hb2 : f64BiasedExp m (n - 15 : Int) ≤ 2046 := by omega
    obtain ⟨hsign, hexp, -⟩ := f64_eq_fields h0 hm hb1 hb2
    exact ⟨f64Value_f64 h0 hm hb1 hb2, hsign, fun _ => by omega⟩

/-- Settles O39: the current's mantissa has 1 to 16 bits, the power's, 240 times it, 8 to 24. -/
theorem binaryPortsAreExact : Obligations.BinaryPortsAreExact := by
  intro w
  have hmant := decMant_toNat_le w
  have hpow := Decoder.powMant_toNat w
  obtain ⟨hcval, hcsign, hcrange⟩ := f64_of_mantissa (lo := 0) (hi := 16) (m := (decMant w).toNat)
    (by omega) (by omega) (decExp_toNat_le w) (by omega)
  obtain ⟨hpval, hpsign, hprange⟩ := f64_of_mantissa (lo := 7) (hi := 24) (m := (powMant w).toNat)
    (by omega) (by omega) (decExp_toNat_le w) (by omega)
  rw [← current_eq] at hcval
  rw [← power_eq] at hpval
  refine ⟨hcval, hpval, hcsign, hpsign, fun h => ?zero, fun h => ?range⟩
  case zero =>
    have hzero := decMant_toNat_eq_zero.mpr h
    rw [hzero, Nat.zero_mul] at hpow
    exact ⟨by rw [curF64, hzero, f64_zero], by rw [powF64, hpow, f64_zero]⟩
  case range =>
    have hne := mt decMant_toNat_eq_zero.mp h
    obtain ⟨hc1, hc2⟩ := hcrange hne
    obtain ⟨hp1, hp2⟩ := hprange (by omega)
    exact ⟨hc1, hc2, hp1, hp2⟩

/-! ### What the values depend on (R156) -/

section SameBytes

variable {w w' : Frame}

theorem decMant_congr (h4 : w[4] = w'[4]) (h5 : w[5] = w'[5]) : decMant w = decMant w' := by
  rw [decMant, decMant, frameMant, frameMant, h4, h5]

theorem current_congr (h4 : w[4] = w'[4]) (h5 : w[5] = w'[5]) (h6 : w[6] = w'[6]) :
    current w = current w' := by
  have hexp : decExp w = decExp w' := h6
  rw [current, current, decMant_congr h4 h5, hexp]

theorem reading_congr (h4 : w[4] = w'[4]) (h5 : w[5] = w'[5]) (h6 : w[6] = w'[6]) :
    { readingOf w with decDev := 0#16 } = { readingOf w' with decDev := 0#16 } := by
  have hexp : decExp w = decExp w' := h6
  simp only [readingOf, curExp, powMant, curF64, powF64, decMant_congr h4 h5, hexp]

end SameBytes

/-- Eight bytes with the header and bytes 4 to 6 as given, and no other byte set. -/
def bareFrame (b4 b5 b6 : Byte) : Frame :=
  #v[0x09#8, 0x94#8, 0x00#8, 0x00#8, b4, b5, b6, 0x00#8]

/-- A frame with these bytes 4 to 6 encodes 1.0 A and 240 W, if the bare one does. -/
theorem one_ampere_of_bytes {b4 b5 b6 : Byte}
    (hcurrent : current (bareFrame b4 b5 b6) = 1)
    (hcur : curF64 (bareFrame b4 b5 b6) = 0x3FF0000000000000#64)
    (hpow : powF64 (bareFrame b4 b5 b6) = 0x406E000000000000#64)
    {w : Frame} (h4 : w[4] = b4) (h5 : w[5] = b5) (h6 : w[6] = b6) :
    current w = 1 ∧ curF64 w = 0x3FF0000000000000#64 ∧ powF64 w = 0x406E000000000000#64 := by
  have hreading := reading_congr (w' := bareFrame b4 b5 b6) h4 h5 h6
  have hsame := current_congr (w' := bareFrame b4 b5 b6) h4 h5 h6
  exact ⟨hsame.trans hcurrent, (congrArg Reading.curF64 hreading).trans hcur,
    (congrArg Reading.powF64 hreading).trans hpow⟩

/-- The current of a frame whose mantissa and exponent are known numbers (R152). -/
theorem current_of_fields {w : Frame} {m n : Nat} (hm : (decMant w).toNat = m)
    (hn : (decExp w).toNat = n) : current w = (m : ℚ) / 32768 * 2 ^ n := by
  rw [current, hm, hn, Config.mantScale, Nat.cast_ofNat]

/-- Settles O40: the bytes 4 to 6 determine all but `dec_dev`, and three settings of them give 1.0 A. -/
theorem decoderReadsBytesFourToSix : Obligations.DecoderReadsBytesFourToSix := by
  refine ⟨fun w w' h4 h5 h6 => ⟨reading_congr h4 h5 h6, current_congr h4 h5 h6, ?power⟩,
    fun w h => ?encodings⟩
  case power => rw [power, power, current_congr h4 h5 h6]
  case encodings =>
    rcases h with ⟨h4, h5, h6⟩ | ⟨h4, h5, h6⟩ | ⟨h4, h5, h6⟩
    · have hcurrent : current (bareFrame 0x40#8 0x00#8 0x01#8) = 1 :=
        (current_of_fields (m := 0x4000) (n := 1) (by decide) (by decide)).trans (by norm_num)
      exact one_ampere_of_bytes hcurrent (by decide) (by decide) h4 h5 h6
    · have hcurrent : current (bareFrame 0x80#8 0x00#8 0x00#8) = 1 :=
        (current_of_fields (m := 0x8000) (n := 0) (by decide) (by decide)).trans (by norm_num)
      exact one_ampere_of_bytes hcurrent (by decide) (by decide) h4 h5 h6
    · have hcurrent : current (bareFrame 0x01#8 0x00#8 0x07#8) = 1 :=
        (current_of_fields (m := 0x0100) (n := 7) (by decide) (by decide)).trans (by norm_num)
      exact one_ampere_of_bytes hcurrent (by decide) (by decide) h4 h5 h6

end Sys2Proof.Proofs.Values
